-- ==== Sys2Proof/Word.lean ====
section
/-! DEFINITION. The word type of the host bus and the index type of the operand registers. -/

namespace Sys2Proof

/-- A 32-bit bus word (00_scope.md R6, R9). The command word and entropy words are such words too. -/
abbrev Word := BitVec 32

/-- A byte offset in the register aperture: 14 bits (20_memory.md R60). -/
abbrev Offset := BitVec 14

/-- The index of an operand register `X0`..`X7`: a 3-bit field (30_encoding.md R82). -/
abbrev Reg := Fin 8

end Sys2Proof
end

