-- ==== Sys2Proof/Syntax.lean ====
section
/-! DEFINITION. The command set "MXE command set, version 1": one constructor per row of the opcode map. -/

namespace Sys2Proof

/-- A command with the operand fields its row has (30_encoding.md R83, R84); a field a row has not must be 0 in the word
(R85) and is no argument here. -/
inductive Instr where
  /-- `NOP` (40_control.md R109). -/
  | nop
  /-- `MODEXP xd, xbase, xexp, xmod` (41_arith.md R122). -/
  | modexp (rd rs1 rs2 rs3 : Reg)
  /-- `MODINV xd, xa, xm` (41_arith.md R123). -/
  | modinv (rd rs1 rs2 : Reg)
  /-- `ISPRIME xn` (42_primality.md R145). -/
  | isprime (rs1 : Reg)
  /-- `GENPRIME xd, xbits` (43_prime_generator.md R162). -/
  | genprime (rd rs1 : Reg)
  /-- `KEYGEN xd, xt` (44_key_derivation.md R181). -/
  | keygen (rd rs1 : Reg)
  deriving DecidableEq, Repr

/-- `ENC xd, xm, xe, xn` is MODEXP with `(publicExponent, modulus)` (30_encoding.md R89). -/
def Instr.enc (xd xm xe xn : Reg) : Instr := .modexp xd xm xe xn

/-- `DEC xd, xc, xdexp, xn` is MODEXP with `(privateExponent, modulus)` (30_encoding.md R89). -/
def Instr.dec (xd xc xdexp xn : Reg) : Instr := .modexp xd xc xdexp xn

end Sys2Proof
end

