-- ==== Sys2Proof/WellFormed.lean ====
section
/-! DEFINITION. The one condition on operands that the types do not carry. -/

namespace Sys2Proof

/-- KEYGEN's destination is `x0` or `x4`, so that its four results fit (30_encoding.md R83, 44_key_derivation.md R181). -/
def keygenDest (rd : Reg) : Bool := rd.val % 4 == 0

/-- A command that has an encoding. -/
def Instr.wf : Instr → Bool
  | .nop => true
  | .modexp _ _ _ _ => true
  | .modinv _ _ _ => true
  | .isprime _ => true
  | .genprime _ _ => true
  | .keygen rd _ => keygenDest rd

end Sys2Proof
end

