-- ==== Sys2Proof/Decode.lean ====
section
/-! DEFINITION. Decoding a command word by the opcode map of 30_encoding.md R83, and encoding a command by R81. -/

namespace Sys2Proof

/-- The mnemonics of the opcode map (30_encoding.md R83). -/
inductive Mnemonic where
  | nop | modexp | modinv | isprime | genprime | keygen
  deriving DecidableEq, Repr

/-- A row of the opcode map: a word selects it when `w & mask = pattern`. -/
structure Row where
  mnemonic : Mnemonic
  pattern : Word
  mask : Word
  deriving DecidableEq, Repr

/-- The opcode map (30_encoding.md R83). -/
def rows : List Row :=
  [⟨.nop, 0x00000000, 0xFFFFFFFF⟩,
   ⟨.modexp, 0x00000001, 0xFF8888FF⟩,
   ⟨.modinv, 0x00000002, 0xFFF888FF⟩,
   ⟨.isprime, 0x00000003, 0xFFFF8FFF⟩,
   ⟨.genprime, 0x00000004, 0xFFFF88FF⟩,
   ⟨.keygen, 0x00000005, 0xFFFF8BFF⟩]

/-- `w` selects the row `r` (30_encoding.md R83). -/
def Row.selects (r : Row) (w : Word) : Bool := w &&& r.mask == r.pattern

/-- The field of `len` bits whose lowest bit is bit `lo` (00_scope.md R8). -/
def field (w : Word) (lo len : Nat) : Nat := w.toNat / 2 ^ lo % 2 ^ len

/-- A 3-bit operand register field (30_encoding.md R82). -/
def regField (w : Word) (lo : Nat) : Reg := Fin.ofNat 8 (field w lo 3)

/-- `OPC`, bits `[5:0]` (30_encoding.md R81). -/
def opcField (w : Word) : Nat := field w 0 6
/-- `RD`, bits `[10:8]` (30_encoding.md R81). -/
def rdField (w : Word) : Reg := regField w 8
/-- `RS1`, bits `[14:12]` (30_encoding.md R81). -/
def rs1Field (w : Word) : Reg := regField w 12
/-- `RS2`, bits `[18:16]` (30_encoding.md R81). -/
def rs2Field (w : Word) : Reg := regField w 16
/-- `RS3`, bits `[22:20]` (30_encoding.md R81). -/
def rs3Field (w : Word) : Reg := regField w 20

/-- The command of a selected row, with the fields that row has. -/
def instrOf (m : Mnemonic) (w : Word) : Instr :=
  match m with
  | .nop => .nop
  | .modexp => .modexp (rdField w) (rs1Field w) (rs2Field w) (rs3Field w)
  | .modinv => .modinv (rdField w) (rs1Field w) (rs2Field w)
  | .isprime => .isprime (rs1Field w)
  | .genprime => .genprime (rdField w) (rs1Field w)
  | .keygen => .keygen (rdField w) (rs1Field w)

/-- The kinds of illegal word (30_encoding.md R85), by name. -/
inductive IllegalReason where
  /-- an opcode `0x06`..`0x3F` -/
  | opcode
  /-- a reserved bit (`[7:6]`, `[11]`, `[15]`, `[19]`, `[31:23]`) set -/
  | reservedBit
  /-- a nonzero operand field that the command does not use -/
  | unusedField
  /-- KEYGEN with `RD` not in {0, 4} -/
  | keygenDest
  deriving DecidableEq, Repr

/-- Some reserved bit of `w` is set (30_encoding.md R81). -/
def reservedSet (w : Word) : Bool :=
  field w 6 2 != 0 || field w 11 1 != 0 || field w 15 1 != 0 || field w 19 1 != 0 || field w 23 9 != 0

/-- Some operand field that the opcode's command does not use is nonzero (30_encoding.md R85). -/
def unusedSet (w : Word) : Bool :=
  match opcField w with
  | 0 => rdField w != 0 || rs1Field w != 0 || rs2Field w != 0 || rs3Field w != 0
  | 1 => false
  | 2 => rs3Field w != 0
  | 3 => rdField w != 0 || rs2Field w != 0 || rs3Field w != 0
  | 4 => rs2Field w != 0 || rs3Field w != 0
  | 5 => rs2Field w != 0 || rs3Field w != 0
  | _ => false

/-- Why a word is illegal, read from the list of 30_encoding.md R85 and not from the masks; `none` where no item of the
list applies. -/
def illegalReason (w : Word) : Option IllegalReason :=
  if 6 ≤ opcField w then some .opcode
  else if reservedSet w then some .reservedBit
  else if unusedSet w then some .unusedField
  else if opcField w = 5 ∧ keygenDest (rdField w) = false then some .keygenDest
  else none

/-- Decode by the opcode map: the first row selected, else `none`, which is ILLEGAL (30_encoding.md R87). Total: no word
is left out (R86). -/
def decode (w : Word) : Option Instr := (rows.find? (·.selects w)).map (instrOf ·.mnemonic w)

/-- Decode, rejecting by name: the reason is the first item of R85's list that applies. A word that no row selects and
no item names does not exist (an obligation says so); it would be rejected as an unknown opcode. -/
def decodeNamed (w : Word) : Except IllegalReason Instr :=
  match decode w with
  | some i => .ok i
  | none => .error ((illegalReason w).getD .opcode)

/-- `OPC | (RD << 8) | (RS1 << 12) | (RS2 << 16) | (RS3 << 20)` (30_encoding.md R81). -/
def pack (opc : Nat) (rd rs1 rs2 rs3 : Reg) : Word :=
  BitVec.ofNat 32 opc ||| (BitVec.ofNat 32 rd.val <<< 8) ||| (BitVec.ofNat 32 rs1.val <<< 12)
    ||| (BitVec.ofNat 32 rs2.val <<< 16) ||| (BitVec.ofNat 32 rs3.val <<< 20)

/-- The opcode of a command (30_encoding.md R83). -/
def Instr.opcode : Instr → Nat
  | .nop => 0
  | .modexp _ _ _ _ => 1
  | .modinv _ _ _ => 2
  | .isprime _ => 3
  | .genprime _ _ => 4
  | .keygen _ _ => 5

/-- The word of a command: a field it does not use is 0 (30_encoding.md R81, R82). -/
def encode (i : Instr) : Word :=
  match i with
  | .nop => pack i.opcode 0 0 0 0
  | .modexp rd rs1 rs2 rs3 => pack i.opcode rd rs1 rs2 rs3
  | .modinv rd rs1 rs2 => pack i.opcode rd rs1 rs2 0
  | .isprime rs1 => pack i.opcode 0 rs1 0 0
  | .genprime rd rs1 => pack i.opcode rd rs1 0 0
  | .keygen rd rs1 => pack i.opcode rd rs1 0 0

/-- A command word given as a number of `nbits` bits; the bits above are 0. A command is one bus word (30_encoding.md
R80): a number that needs more than 32 bits is none. -/
def wordOfTable (nbits w : Nat) : Option Word :=
  let v := w % 2 ^ nbits
  if v < 2 ^ 32 then some (BitVec.ofNat 32 v) else none

/-- What the decoder reads from a word numbered as spec/opcode_table.json numbers it. -/
def decodeTableWord (nbits w : Nat) : Option Instr := (wordOfTable nbits w).bind decode

end Sys2Proof
end

