-- ==== Sys2Proof/Config.lean ====
section
/-! DEFINITION. The implementation parameters of the block, and the one free value of the model. -/

namespace Sys2Proof

/-- The OPEN parameters of 00_scope.md R6 and 20_memory.md R60. `State` carries them, no step changes them, so a
statement about every state is a statement about every choice of them (log entries 1 and 2). -/
structure Params where
  /-- `W`, the operand register width in bits. -/
  width : Nat
  /-- `ENTROPY_FAIR`: the entropy source always eventually supplies a value (43_prime_generator.md R165). -/
  entropyFair : Bool
  /-- `BASE`, the bus address of offset 0, chosen by the platform (20_memory.md R60). -/
  base : Nat
  deriving DecidableEq, Repr

/-- The three constraints on `W` (00_scope.md R7). -/
abbrev Params.Legal (p : Params) : Prop := p.width % 32 = 0 ∧ 64 ≤ p.width ∧ p.width ≤ 8192

namespace Config

/-- The parameters `State.reset` is given. DESIGN CHOICE (log entries 1 and 2): the spec leaves all three OPEN; 4096 is
the width of the spec's own examples in 10_state.md R24 and 20_memory.md R62. -/
def params : Params := ⟨4096, false, 0⟩

/-- FREE VALUE: the base generator's `k`-th draw after the draws a state lists (00_scope.md R12, 42_primality.md R144).
No value of it can be computed or proved (log entry 5). -/
opaque freeBase : Nat → Nat

end Config

end Sys2Proof
end

