-- ==== Sys2Proof/Machine/State.lean ====
section
/-! DEFINITION. The state of the block and of what surrounds it, as plain data, and the machine right after reset. -/

namespace Sys2Proof.Machine

/-- Why a step stops. No command error is one of these: those are codes in `STATUS.ERR` (60_exceptions.md R200). -/
inductive Fault where
  /-- Raised by a meaning, or by the engine step, for a pair of `fsm` and latched command that no rule dispatches
  (40_control.md R104; 93_implementation_defined.md U10 asks for a fault). No run reaches it. Safe. -/
  | undispatched
  /-- Raised by a bus transaction while `rst_n` is asserted: "what the bus does with such an access is outside this
  spec" (70_reset_and_hazards.md R232; 93_implementation_defined.md U9, stuck). Safe. -/
  | busAccessInReset
  deriving DecidableEq, Repr

/-- Why the model gives no meaning. -/
inductive Refusal where
  /-- Raised by a dispatch arm whose instruction has no meaning yet; no arm is such. Safe. -/
  | notModelled (mnemonic : String)
  deriving DecidableEq, Repr

/-- The controller state `fsm` (10_state.md R36, R39). -/
inductive Fsm where
  | idle | start | gpDraw | gpTest | kgInv
  deriving DecidableEq, Repr

/-- Which prime KEYGEN is generating (10_state.md R36). -/
inductive Phase where
  | p | q
  deriving DecidableEq, Repr

/-- The error codes of `STATUS.ERR` that are produced (60_exceptions.md R201). -/
inductive ErrCode where
  | ok | illegal | invalidKey | noInverse | badArg | aborted
  deriving DecidableEq, Repr

/-- The eight operand registers, each a natural below `2^W` (10_state.md R21). -/
structure RegFile where
  x0 : Nat
  x1 : Nat
  x2 : Nat
  x3 : Nat
  x4 : Nat
  x5 : Nat
  x6 : Nat
  x7 : Nat
  deriving DecidableEq, Repr

/-- A host transaction as the bus presents it (20_memory.md R65, 00_scope.md R10): the transfer size is in bytes, and a
write has four byte strobes. -/
inductive Txn where
  | read (off : Offset) (size : Nat)
  | write (off : Offset) (size : Nat) (strb : BitVec 4) (data : Word)
  deriving DecidableEq, Repr

/-- What a transaction returns to the host (20_memory.md R65, R75). -/
inductive Response where
  /-- `prdata` of a read without error -/
  | data (w : Word)
  /-- a write without error -/
  | written
  /-- `SLVERR` on a read, with the data it returns -/
  | readError (w : Word)
  /-- `SLVERR` on a write -/
  | writeError
  deriving DecidableEq, Repr

/-- An entry of the total order of 20_memory.md R70 and 40_control.md R100. -/
inductive Event where
  /-- a host step -/
  | bus (t : Txn)
  /-- the engine is scheduled: it takes a step if one is enabled -/
  | engine
  /-- `rst_n` is asserted: the reset of 70_reset_and_hazards.md R230 -/
  | resetAssert
  /-- `rst_n` is released (70_reset_and_hazards.md R233) -/
  | resetRelease
  /-- the entropy source has one more word to offer (43_prime_generator.md R165) -/
  | entropy (w : Word)
  deriving DecidableEq, Repr

/-- The Miller–Rabin base draws still to come: those listed, then the free values `Config.freeBase index`,
`Config.freeBase (index + 1)`, … (42_primality.md R144; log entry 5). -/
structure BaseSource where
  queue : List Nat
  index : Nat
  deriving DecidableEq, Repr

/-- The state of the block: the table of 10_state.md R20, "Nothing else is state". -/
structure Block where
  /-- operand registers (R21) -/
  X : RegFile
  /-- `CTRL.IE` (R25) -/
  ie : Bool
  /-- `STATUS.BUSY` (R29) -/
  busy : Bool
  /-- `STATUS.DONE` (R30) -/
  done : Bool
  /-- `STATUS.PRIME` (R31) -/
  prime : Bool
  /-- `STATUS.COLL` (R32) -/
  coll : Bool
  /-- `STATUS.ERR` (R33) -/
  err : BitVec 4
  /-- controller state (R36) -/
  fsm : Fsm
  /-- latched command word (R36) -/
  cmd : Word
  /-- snapshot of `X[rs1]` (R36) -/
  A : Nat
  /-- snapshot of `X[rs2]` (R36) -/
  B : Nat
  /-- snapshot of `X[rs3]` (R36) -/
  C : Nat
  /-- bit length of the prime being generated (R36) -/
  gbits : Nat
  /-- current prime candidate (R36) -/
  cand : Nat
  /-- which prime KEYGEN is generating (R36) -/
  phase : Phase
  /-- KEYGEN's total bit length `T` (R36) -/
  kt : Nat
  /-- KEYGEN's prime `p` (R36) -/
  kp : Nat
  /-- KEYGEN's prime `q` (R36) -/
  kq : Nat
  deriving DecidableEq, Repr

/-- The block with its parameters, its reset pin, and the inputs still to come; the fields below are the model's own (log
entries 1, 4, 5, 6, 10, 16). -/
structure State extends Block where
  /-- `W`, `ENTROPY_FAIR`, `BASE`: no step changes them -/
  params : Params
  /-- the level of `rst_n` -/
  rstN : Bool
  /-- the events to come, in the total order -/
  inbox : List Event
  /-- the words the entropy source is offering, in order -/
  entropy : List Word
  /-- the base draws to come -/
  bases : BaseSource
  /-- what the host's transactions returned, oldest first -/
  responses : List Response
  deriving DecidableEq, Repr

/-- Every operand register 0 (10_state.md R22). -/
def RegFile.zero : RegFile := ⟨0, 0, 0, 0, 0, 0, 0, 0⟩

/-- The reset value of every item of state (70_reset_and_hazards.md R230). `cmd`, `A`, `B`, `C` are unspecified there and
never read in IDLE: 0 is a DESIGN CHOICE (log entry 3). -/
def Block.reset : Block where
  X := RegFile.zero
  ie := false
  busy := false
  done := false
  prime := false
  coll := false
  err := 0
  fsm := .idle
  cmd := 0
  A := 0
  B := 0
  C := 0
  gbits := 0
  cand := 0
  phase := .p
  kt := 0
  kp := 0
  kq := 0

/-- The machine right after reset with the parameters `p`: the block as R230 says, `rst_n` released, no event scheduled
and no draw listed. -/
def State.resetWith (p : Params) : State where
  toBlock := Block.reset
  params := p
  rstN := true
  inbox := []
  entropy := []
  bases := ⟨[], 0⟩
  responses := []

/-- The machine right after reset, with the parameters of `Config` (log entries 1 and 2). -/
def State.reset : State := State.resetWith Config.params

end Sys2Proof.Machine
end

