-- ==== Sys2Proof/Machine/Rom.lean ====
section
/-! DEFINITION. The constants built into the engine (10_state.md R37). -/

namespace Sys2Proof.Machine

/-- The small-prime ROM `SP`: the 100 primes from 2 to 541, ascending (42_primality.md R140). It never changes (R141). -/
def smallPrimes : List Nat :=
  [2, 3, 5, 7, 11, 13, 17, 19, 23, 29] ++
  [31, 37, 41, 43, 47, 53, 59, 61, 67, 71] ++
  [73, 79, 83, 89, 97, 101, 103, 107, 109, 113] ++
  [127, 131, 137, 139, 149, 151, 157, 163, 167, 173] ++
  [179, 181, 191, 193, 197, 199, 211, 223, 227, 229] ++
  [233, 239, 241, 251, 257, 263, 269, 271, 277, 281] ++
  [283, 293, 307, 311, 313, 317, 331, 337, 347, 349] ++
  [353, 359, 367, 373, 379, 383, 389, 397, 401, 409] ++
  [419, 421, 431, 433, 439, 443, 449, 457, 461, 463] ++
  [467, 479, 487, 491, 499, 503, 509, 521, 523, 541]

/-- `MR_ROUNDS` (00_scope.md R6). -/
def mrRounds : Nat := 20

/-- `E_PUB` (00_scope.md R6). -/
def ePub : Nat := 65537

/-- `NREGS` (00_scope.md R6). -/
def nRegs : Nat := 8

/-- The constant of the ID register (10_state.md R23). -/
def idWord : Word := 0x52534145

end Sys2Proof.Machine
end

