-- ==== Sys2Proof/Machine/Flags.lean ====
section
/-! DEFINITION. The bits of CTRL, STATUS and CONFIG, the error codes and the interrupt line. -/

namespace Sys2Proof.Machine

/-- The 4-bit code of an error (60_exceptions.md R201). -/
def ErrCode.code : ErrCode → BitVec 4
  | .ok => 0
  | .illegal => 1
  | .invalidKey => 2
  | .noInverse => 3
  | .badArg => 4
  | .aborted => 5

/-- A one-bit field as a word (00_scope.md R9, `zext_32`). -/
def bitWord (b : Bool) : Word := (BitVec.ofBool b).setWidth 32

/-- `STATUS` as the host reads it: `(ERR << 8) | (COLL << 3) | (PRIME << 2) | (DONE << 1) | BUSY` (40_control.md R107). -/
def Block.statusWord (b : Block) : Word :=
  (b.err.setWidth 32 <<< 8) ||| (bitWord b.coll <<< 3) ||| (bitWord b.prime <<< 2) ||| (bitWord b.done <<< 1)
    ||| bitWord b.busy

/-- `CTRL` as the host reads it: `IE`, with `ABORT` and the reserved bits 0 (10_state.md R25). -/
def Block.ctrlWord (b : Block) : Word := bitWord b.ie

/-- `CONFIG`: `(8 << 24) | (20 << 16) | W[15:0]` (10_state.md R24, 40_control.md R107). -/
def configWord (p : Params) : Word :=
  (BitVec.ofNat 32 nRegs <<< 24) ||| (BitVec.ofNat 32 mrRounds <<< 16) ||| BitVec.ofNat 32 (p.width % 2 ^ 16)

/-- The interrupt output: `irq = CTRL.IE & STATUS.DONE`, a level (10_state.md R35, 60_exceptions.md R213). -/
def Block.irq (b : Block) : Bool := b.ie && b.done

/-- The pin `ent_ready`: raised only in `GP_DRAW` (20_memory.md R75). That it is 1 throughout `GP_DRAW`, also while too few
words are there for a draw, is the model's choice (93_implementation_defined.md U13; log entry 21). No step reads it. -/
def Block.entReady (b : Block) : Bool := b.fsm == .gpDraw

end Sys2Proof.Machine
end

