-- ==== Sys2Proof/Machine/Number.lean ====
section
/-! DEFINITION. The exact arithmetic of the engine: `modexp` and `xgcd` of 41_arith.md R121, the primality test of
42_primality.md R142 and R143. Each loop of the pseudocode is a structural recursion on fuel that its own operand bounds
(log entry 15). -/

namespace Sys2Proof.Machine

/-- The loop of `modexp` (41_arith.md R121): `r` the product so far, `x` the current square. -/
def modexpLoop (m : Nat) : (fuel r x e : Nat) → Nat
  | 0, r, _, _ => r
  | fuel + 1, r, x, e =>
    if e = 0 then r
    else modexpLoop m fuel (if e % 2 = 1 then r * x % m else r) (x * x % m) (e / 2)

/-- `modexp(b, e, m)`, for `m >= 2` (41_arith.md R121). -/
def modexp (b e m : Nat) : Nat := modexpLoop m e 1 (b % m) e

/-- The loop of `xgcd` (41_arith.md R121). The signed values stay inside. -/
def xgcdLoop : (fuel r0 r1 : Nat) → (t0 t1 : Int) → Nat × Int
  | 0, r0, _, t0, _ => (r0, t0)
  | fuel + 1, r0, r1, t0, t1 =>
    if r1 = 0 then (r0, t0)
    else xgcdLoop fuel r1 (r0 - r0 / r1 * r1) t1 (t0 - (r0 / r1 : Nat) * t1)

/-- `xgcd(a, m)`, for `m >= 1`: `(g, x)` with `g = gcd(a, m)` and `x` in `[0, m)` (41_arith.md R121). -/
def xgcd (a m : Nat) : Nat × Nat :=
  let (g, t) := xgcdLoop (a % m + 1) m (a % m) 0 1
  (g, (t % (m : Int)).toNat)

/-- The loop of `decompose` (42_primality.md R142). -/
def decomposeLoop : (fuel s d : Nat) → Nat × Nat
  | 0, s, d => (s, d)
  | fuel + 1, s, d => if d % 2 = 0 then decomposeLoop fuel (s + 1) (d / 2) else (s, d)

/-- `decompose(n)`: `(s, d)` with `n - 1 = 2^s * d` and `d` odd, for odd `n >= 3` (42_primality.md R142). -/
def decompose (n : Nat) : Nat × Nat := decomposeLoop n 0 (n - 1)

/-- "repeat s - 1 times: square, pass if it equals n - 1" (42_primality.md R142). -/
def squaringsPass (n : Nat) : (times x : Nat) → Bool
  | 0, _ => false
  | k + 1, x => if x * x % n = n - 1 then true else squaringsPass n k (x * x % n)

/-- One Miller–Rabin round: true when the round passes (42_primality.md R142). -/
def mrRound (n a : Nat) : Bool :=
  let (s, d) := decompose n
  let x := modexp a d n
  if x = 1 ∨ x = n - 1 then true else squaringsPass n (s - 1) x

/-- A draw brought into the range `[2, n-2]` of a base: the identity on every value of the range (00_scope.md R12: "The
only constraint on a draw is its range"; log entry 5). -/
def baseInRange (n a : Nat) : Nat := if 2 ≤ a ∧ a ≤ n - 2 then a else 2 + a % (n - 3)

/-- `draw_base(n)` (00_scope.md R10): the next listed draw, or the next free value once none is listed. -/
def BaseSource.draw (n : Nat) (b : BaseSource) : Nat × BaseSource :=
  match b.queue with
  | a :: rest => (baseInRange n a, { b with queue := rest })
  | [] => (baseInRange n (Config.freeBase b.index), { b with index := b.index + 1 })

/-- Up to `k` rounds, each with a fresh base, stopping at the first that fails (42_primality.md R143, R144). -/
def mrTest (n : Nat) : (k : Nat) → BaseSource → Bool × BaseSource
  | 0, b => (true, b)
  | k + 1, b => if mrRound n (b.draw n).1 then mrTest n k (b.draw n).2 else (false, (b.draw n).2)

/-- Some prime of the ROM divides `n` (42_primality.md R143). -/
def smallFactor (n : Nat) : Bool := smallPrimes.any (fun p => n % p == 0)

/-- `isPrimeFn(n)` with the draws it takes from `b`: the verdict, and the draws left (42_primality.md R143). -/
def isPrimeFn (n : Nat) (b : BaseSource) : Bool × BaseSource :=
  if n < 2 then (false, b)
  else if n ∈ smallPrimes then (true, b)
  else if smallFactor n then (false, b)
  else mrTest n mrRounds b

end Sys2Proof.Machine
end

