-- ==== Sys2Proof/Machine/Operands.lean ====
section
/-! DEFINITION. The operand registers, their 32-bit limbs, and the aperture map. -/

namespace Sys2Proof.Machine

/-- Read an operand register: `X[i]` (00_scope.md R10). -/
def RegFile.get (x : RegFile) (i : Reg) : Nat :=
  match i with
  | 0 => x.x0
  | 1 => x.x1
  | 2 => x.x2
  | 3 => x.x3
  | 4 => x.x4
  | 5 => x.x5
  | 6 => x.x6
  | 7 => x.x7

/-- Write an operand register: `X[i] <- v` (00_scope.md R10). No register is hardwired (10_state.md R21). -/
def RegFile.set (x : RegFile) (i : Reg) (v : Nat) : RegFile :=
  match i with
  | 0 => { x with x0 := v }
  | 1 => { x with x1 := v }
  | 2 => { x with x2 := v }
  | 3 => { x with x3 := v }
  | 4 => { x with x4 := v }
  | 5 => { x with x5 := v }
  | 6 => { x with x6 := v }
  | 7 => { x with x7 := v }

/-- `v[hi:lo]`, bits `hi` down to `lo`, inclusive (00_scope.md R8). -/
def slice (v hi lo : Nat) : Nat := v / 2 ^ lo % 2 ^ (hi + 1 - lo)

/-- Limb `j` of a register value: `v[32j+31 : 32j]` (20_memory.md R62). -/
def limb (v j : Nat) : Nat := slice v (32 * j + 31) (32 * j)

/-- `v` with limb `j` replaced by `w` and every other bit as it was (20_memory.md R66). -/
def setLimb (v j : Nat) (w : Word) : Nat :=
  v / 2 ^ (32 * j + 32) * 2 ^ (32 * j + 32) + w.toNat * 2 ^ (32 * j) + v % 2 ^ (32 * j)

/-- The number of limbs that are present: `W/32` (20_memory.md R62). -/
def limbCount (p : Params) : Nat := p.width / 32

/-- What an aligned offset names (20_memory.md R61). -/
inductive Target where
  | id | config | ctrl | status | cmd
  /-- limb `j` of the window of `X[i]`, present or not -/
  | limb (i : Reg) (j : Nat)
  | unmapped
  deriving DecidableEq, Repr

/-- The aperture map (20_memory.md R61, R62). -/
def target (off : Offset) : Target :=
  let o := off.toNat
  if o = 0x000 then .id
  else if o = 0x004 then .config
  else if o = 0x008 then .ctrl
  else if o = 0x00C then .status
  else if o = 0x010 then .cmd
  else if 0x400 ≤ o ∧ o < 0x2400 then .limb (Fin.ofNat 8 ((o - 0x400) / 0x400)) ((o - 0x400) % 0x400 / 4)
  else .unmapped

/-- The offset of limb `j` of `X[i]`: `0x400 + 0x400*i + 4*j` (20_memory.md R62). -/
def limbOffset (i : Reg) (j : Nat) : Offset := BitVec.ofNat 14 (0x400 + 0x400 * i.val + 4 * j)

/-- The offset of a bus address in the aperture, where it lies in it (20_memory.md R60). -/
def offsetOf (p : Params) (address : Nat) : Option Offset :=
  if p.base ≤ address ∧ address < p.base + 0x4000 then some (BitVec.ofNat 14 (address - p.base)) else none

end Sys2Proof.Machine
end

