-- ==== Sys2Proof/Machine/Ops.lean ====
section
/-! DEFINITION. The named operations on the state that the commands and the bus share: accept, completion (the block's
form of taking an exception), abort, acknowledging, reset, and the two candidate steps. -/

namespace Sys2Proof.Machine

/-- What one step of this machine answers. -/
abbrev Result := Host.Outcome State Fault Refusal

/-! ## Completion -/

/-- `for (i, v) in writes: X[i] <- v` (40_control.md R105). -/
def State.writeRegs (writes : List (Reg × Nat)) (s : State) : State :=
  { s with X := writes.foldl (fun x w => x.set w.1 w.2) s.X }

/-- `gbits, cand, kt, kp, kq <- 0 ; phase <- P` (10_state.md R36, 40_control.md R105, R106). -/
def State.zeroise (s : State) : State :=
  { s with gbits := 0, cand := 0, phase := .p, kt := 0, kp := 0, kq := 0 }

/-- What every completion does, successful or not: `ERR <- code`, `DONE <- 1`, `BUSY <- 0`, `fsm <- IDLE`, and the
internal state is cleared. A completion takes the place of trap entry: the code is all it saves and control goes nowhere
(60_exceptions.md R210). -/
def State.finish (code : ErrCode) (s : State) : State :=
  { s.zeroise with err := code.code, done := true, busy := false, fsm := .idle }

/-- `complete_ok(writes)` (40_control.md R105). -/
def completeOk (writes : List (Reg × Nat)) (s : State) : State := (s.writeRegs writes).finish .ok

/-- `complete_err(code)`: no operand register is written and `PRIME` is kept (40_control.md R106). -/
def completeErr (code : ErrCode) (s : State) : State := s.finish code

/-- The host's acknowledgement, the block's nearest thing to a return: `DONE <- 0` (60_exceptions.md R211). -/
def State.clearDone (s : State) : State := { s with done := false }

/-- `COLL <- 0` (10_state.md R27, R32). -/
def State.clearColl (s : State) : State := { s with coll := false }

/-- A host write was ignored because `BUSY = 1`: `COLL <- 1` and nothing else (10_state.md R32, 40_control.md R103). -/
def State.collide (s : State) : State := { s with coll := true }

/-- `PRIME <- v` (10_state.md R31). -/
def State.setPrime (v : Bool) (s : State) : State := { s with prime := v }

/-- `CTRL.IE <- v` (10_state.md R25, R34). -/
def State.setIe (v : Bool) (s : State) : State := { s with ie := v }

/-! ## Accept, abort, reset -/

/-- `accept(w)`: latch the word, take the operand snapshot and start (40_control.md R102). The three register fields are
read for every command, whether it uses them or not. -/
def State.accept (w : Word) (s : State) : State :=
  { s with
    cmd := w
    A := s.X.get (rs1Field w)
    B := s.X.get (rs2Field w)
    C := s.X.get (rs3Field w)
    busy := true
    done := false
    err := ErrCode.ok.code
    fsm := .start }

/-- The abort (60_exceptions.md R212). -/
def State.abort (s : State) : State := if s.busy then completeErr .aborted s else s

/-- `rst_n` asserted: every item of the block's state takes its reset value, and a running command is discarded without a
completion (70_reset_and_hazards.md R230, R231). -/
def State.assertReset (s : State) : State := { s with toBlock := Block.reset, rstN := false }

/-- `rst_n` released (70_reset_and_hazards.md R233). -/
def State.releaseReset (s : State) : State := { s with rstN := true }

/-! ## What surrounds the block -/

/-- The source offers one more word, behind those it is offering (43_prime_generator.md R165). -/
def State.offerEntropy (w : Word) (s : State) : State := { s with entropy := s.entropy ++ [w] }

/-- The host receives the answer to its transaction. -/
def State.respond (r : Response) (s : State) : State := { s with responses := s.responses ++ [r] }

/-- The events left once the first is taken. -/
def State.setInbox (es : List Event) (s : State) : State := { s with inbox := es }

/-! ## Draws -/

/-- How many entropy words a draw of `bits` bits consumes: `ceil(bits/32)` (43_prime_generator.md R165). -/
def wordsNeeded (bits : Nat) : Nat := (bits + 31) / 32

/-- "Word k supplies bits [32k+31:32k]" (43_prime_generator.md R165). -/
def joinWords : List Word → Nat
  | [] => 0
  | w :: rest => w.toNat + 2 ^ 32 * joinWords rest

/-- The value of `draw_cs(bits)` from the words offered: "the bits at `gbits` and above are discarded"
(43_prime_generator.md R165). -/
def drawValue (bits : Nat) (entropy : List Word) : Nat := joinWords (entropy.take (wordsNeeded bits)) % 2 ^ bits

/-- The words of a draw are available (43_prime_generator.md R165). -/
def State.entropyReady (s : State) : Bool := wordsNeeded s.gbits ≤ s.entropy.length

/-- The candidate of a draw: `r | (1 << (gbits - 1)) | 1` (43_prime_generator.md R160). -/
def candidateOf (bits r : Nat) : Nat := r ||| (1 <<< (bits - 1)) ||| 1

/-- The candidate is drawn, its words are consumed, `fsm <- GP_TEST` (43_prime_generator.md R160). -/
def State.takeCandidate (s : State) : State :=
  { s with
    entropy := s.entropy.drop (wordsNeeded s.gbits)
    cand := candidateOf s.gbits (drawValue s.gbits s.entropy)
    fsm := .gpTest }

/-- The candidate draw step, shared by GENPRIME and KEYGEN: enabled once the words are there, and a hold until then, which
only an abort or a reset ends otherwise (43_prime_generator.md R160, R165). -/
def candidateDraw (s : State) : State := if s.entropyReady then s.takeCandidate else s

/-- The base draws left after a test. -/
def State.setBases (b : BaseSource) (s : State) : State := { s with bases := b }

/-- `cand <- cand + 2`, `fsm` stays `GP_TEST` (43_prime_generator.md R161). -/
def State.nextCandidate (s : State) : State := { s with cand := s.cand + 2 }

/-- The candidate test step, shared by GENPRIME and KEYGEN: one primality test of `cand`; `passed` is what the command
does with a candidate that passes (43_prime_generator.md R161). -/
def candidateTest (passed : State → State) (s : State) : State :=
  let verdict := isPrimeFn s.cand s.bases
  if verdict.1 then passed (s.setBases verdict.2) else (s.setBases verdict.2).nextCandidate

/-- `gbits <- bits`, `fsm <- GP_DRAW` (43_prime_generator.md R162, 44_key_derivation.md R181). -/
def State.beginDraw (bits : Nat) (s : State) : State := { s with gbits := bits, fsm := .gpDraw }

end Sys2Proof.Machine
end

