-- ==== Sys2Proof/Machine/Bus.lean ====
section
/-! DEFINITION. The host's transactions: reads, writes and the bus error (20_memory.md R65, 40_control.md R101, R103,
R107, R108). -/

namespace Sys2Proof.Machine

/-- The data of an aligned 32-bit read (40_control.md R107). It changes no state. -/
def busRead (off : Offset) (s : State) : Word :=
  match target off with
  | .id => idWord
  | .config => configWord s.params
  | .ctrl => s.ctrlWord
  | .status => s.statusWord
  | .cmd => 0
  | .limb i j => if j < limbCount s.params then BitVec.ofNat 32 (limb (s.X.get i) j) else 0
  | .unmapped => 0

/-- A write to CTRL: `IE <- v[0]`, then the abort if `v[1] = 1`, in one transaction (10_state.md R25). -/
def writeCtrl (v : Word) (s : State) : State :=
  if v.getLsbD 1 then (s.setIe (v.getLsbD 0)).abort else s.setIe (v.getLsbD 0)

/-- A write to STATUS: `v[1]` clears `DONE`, `v[3]` clears `COLL`, the other bits do nothing; allowed while `BUSY`
(10_state.md R27). -/
def writeStatus (v : Word) (s : State) : State :=
  { s with
    done := if v.getLsbD 1 then s.clearDone.done else s.done
    coll := if v.getLsbD 3 then s.clearColl.coll else s.coll }

/-- A write to CMD: a collision while `BUSY = 1` (the word is not decoded, 40_control.md R103), else ILLEGAL at once or the
accept (R101). -/
def writeCmd (w : Word) (s : State) : State :=
  if s.busy then s.collide
  else
    match decode w with
    | none => completeErr .illegal s
    | some _ => s.accept w

/-- A write to limb `j` of `X[i]` (20_memory.md R62, R66): an absent limb ignores it, a present one takes it while
`BUSY = 0` and collides while `BUSY = 1`. -/
def writeLimb (i : Reg) (j : Nat) (v : Word) (s : State) : State :=
  if j < limbCount s.params then
    if s.busy then s.collide else { s with X := s.X.set i (setLimb (s.X.get i) j v) }
  else s

/-- The effect of an aligned 32-bit write (40_control.md R108). -/
def busWrite (off : Offset) (v : Word) (s : State) : State :=
  match target off with
  | .id => s
  | .config => s
  | .ctrl => writeCtrl v s
  | .status => writeStatus v s
  | .cmd => writeCmd v s
  | .limb i j => writeLimb i j v s
  | .unmapped => s

/-- `offset[1:0] = 00`. -/
def aligned (off : Offset) : Bool := off.toNat % 4 == 0

/-- The transaction is one of 32 bits at an aligned offset, with all byte strobes if it is a write (20_memory.md R65). -/
def Txn.accepted : Txn → Bool
  | .read off size => size == 4 && aligned off
  | .write off size strb _ => size == 4 && strb == 0xF && aligned off

/-- What the transaction does to the state (20_memory.md R65: one that is not accepted does nothing). -/
def Txn.effect (t : Txn) (s : State) : State :=
  match t with
  | .read _ _ => s
  | .write off _ _ v => if t.accepted then busWrite off v s else s

/-- What the transaction answers (20_memory.md R65: `SLVERR`, with data 0 on a read). -/
def Txn.answer (t : Txn) (s : State) : Response :=
  match t with
  | .read off _ => if t.accepted then .data (busRead off s) else .readError 0
  | .write _ _ _ _ => if t.accepted then .written else .writeError

/-- A host step: the transaction takes its whole effect and answers (20_memory.md R69, R70). -/
def hostStep (t : Txn) (s : State) : State := (t.effect s).respond (t.answer s)

end Sys2Proof.Machine
end

