-- ==== Sys2Proof/Machine/Arith.lean ====
section
/-! DEFINITION. Modular arithmetic: MODEXP and MODINV. -/

namespace Sys2Proof.Machine

/-- The start step of MODEXP (41_arith.md R122). -/
def modexpStart (rd : Reg) (s : State) : State :=
  if s.C ≤ 1 then completeErr .invalidKey s else completeOk [(rd, modexp s.A s.B s.C)] s

/-- `MODEXP xd, xbase, xexp, xmod` (41_arith.md R122). -/
def execModexp (rd _rs1 _rs2 _rs3 : Reg) (s : State) : Result :=
  match s.fsm with
  | .start => .next (modexpStart rd s)
  | .idle | .gpDraw | .gpTest | .kgInv => .fault .undispatched

/-- The start step of MODINV: BAD_ARG is checked before NO_INVERSE (41_arith.md R123, 60_exceptions.md R208). -/
def modinvStart (rd : Reg) (s : State) : State :=
  if s.B = 0 then completeErr .badArg s
  else if (xgcd s.A s.B).1 ≠ 1 then completeErr .noInverse s
  else completeOk [(rd, (xgcd s.A s.B).2)] s

/-- `MODINV xd, xa, xm` (41_arith.md R123). -/
def execModinv (rd _rs1 _rs2 : Reg) (s : State) : Result :=
  match s.fsm with
  | .start => .next (modinvStart rd s)
  | .idle | .gpDraw | .gpTest | .kgInv => .fault .undispatched

end Sys2Proof.Machine
end

