-- ==== Sys2Proof/Machine/Control.lean ====
section
/-! DEFINITION. The control family: NOP. A meaning is ONE engine step of its command (40_control.md R104): it reads `fsm`
and, as sources, only the snapshot `A`, `B`, `C` that accept took from the registers its operands name (R102). -/

namespace Sys2Proof.Machine

/-- `NOP`: `complete_ok([])` (40_control.md R109). -/
def execNop (s : State) : Result :=
  match s.fsm with
  | .start => .next (completeOk [] s)
  | .idle | .gpDraw | .gpTest | .kgInv => .fault .undispatched

end Sys2Proof.Machine
end

