-- ==== Sys2Proof/Machine/KeyDerivation.lean ====
section
/-! DEFINITION. RSA key derivation: KEYGEN. -/

namespace Sys2Proof.Machine

/-- The start step of KEYGEN: `gbits <- T div 2 + 1` (44_key_derivation.md R180, R181). -/
def keygenStart (s : State) : State :=
  if s.A < 2 ∨ s.A > s.params.width - 4 then completeErr .badArg s
  else { s.beginDraw (s.A / 2 + 1) with kt := s.A, phase := .p }

/-- What KEYGEN does with a candidate that passes: it is `p` in phase P and `q` in phase Q (43_prime_generator.md R161). -/
def keygenPassed (s : State) : State :=
  match s.phase with
  | .p => { s with kp := s.cand, phase := .q, fsm := .gpDraw }
  | .q => { s with kq := s.cand, fsm := .kgInv }

/-- `phi = (kp - 1) * (kq - 1)` (44_key_derivation.md R182). -/
def State.phi (s : State) : Nat := (s.kp - 1) * (s.kq - 1)

/-- The four results: `e`, `d`, `n`, `T` in `X[rd]` to `X[rd+3]` (44_key_derivation.md R182, R183). -/
def keygenWrites (rd : Reg) (s : State) : List (Reg × Nat) :=
  [(rd, ePub), (rd + 1, (xgcd ePub s.phi).2), (rd + 2, s.kp * s.kq), (rd + 3, s.kt)]

/-- `phase <- P ; fsm <- GP_DRAW`: both primes are generated again, `gbits` is kept (44_key_derivation.md R184). -/
def State.regenerate (s : State) : State := { s with phase := .p, fsm := .gpDraw }

/-- The key derivation step (44_key_derivation.md R182). -/
def deriveKey (rd : Reg) (s : State) : State :=
  if (xgcd ePub s.phi).1 = 1 then completeOk (keygenWrites rd s) s else s.regenerate

/-- `KEYGEN xd, xt`: START, then GP_DRAW and GP_TEST for `p` and for `q`, then KG_INV, which completes or starts over
(44_key_derivation.md R181). -/
def execKeygen (rd _rs1 : Reg) (s : State) : Result :=
  match s.fsm with
  | .start => .next (keygenStart s)
  | .gpDraw => .next (candidateDraw s)
  | .gpTest => .next (candidateTest keygenPassed s)
  | .kgInv => .next (deriveKey rd s)
  | .idle => .fault .undispatched

end Sys2Proof.Machine
end

