-- ==== Sys2Proof/Machine/Primality.lean ====
section
/-! DEFINITION. Primality testing: ISPRIME. -/

namespace Sys2Proof.Machine

/-- The start step of ISPRIME: `PRIME` is written in the same step as the completion (42_primality.md R145). -/
def isprimeStart (s : State) : State :=
  let verdict := isPrimeFn s.A s.bases
  completeOk [] ((s.setBases verdict.2).setPrime verdict.1)

/-- `ISPRIME xn` (42_primality.md R145). -/
def execIsprime (_rs1 : Reg) (s : State) : Result :=
  match s.fsm with
  | .start => .next (isprimeStart s)
  | .idle | .gpDraw | .gpTest | .kgInv => .fault .undispatched

end Sys2Proof.Machine
end

