-- ==== Sys2Proof/Machine/PrimeGen.lean ====
section
/-! DEFINITION. Prime generation: GENPRIME. -/

namespace Sys2Proof.Machine

/-- The start step of GENPRIME (43_prime_generator.md R162). -/
def genprimeStart (s : State) : State :=
  if s.A < 2 ∨ s.A > s.params.width - 1 then completeErr .badArg s else s.beginDraw s.A

/-- What GENPRIME does with a candidate that passes (43_prime_generator.md R161). -/
def genprimePassed (rd : Reg) (s : State) : State := completeOk [(rd, s.cand)] s

/-- `GENPRIME xd, xbits`: START, then GP_DRAW, then GP_TEST until a candidate passes (43_prime_generator.md R162). -/
def execGenprime (rd _rs1 : Reg) (s : State) : Result :=
  match s.fsm with
  | .start => .next (genprimeStart s)
  | .gpDraw => .next (candidateDraw s)
  | .gpTest => .next (candidateTest (genprimePassed rd) s)
  | .idle | .kgInv => .fault .undispatched

end Sys2Proof.Machine
end

