-- ==== Sys2Proof/Machine/Dispatch.lean ====
section
/-! DEFINITION. One engine step of the running command: the dispatch on the opcode of 40_control.md R104. -/

namespace Sys2Proof.Machine

-- each meaning dispatches on fsm itself
def exec (i : Instr) (s : State) : Host.Outcome State Fault Refusal :=
  match i with
  | .nop => Sys2Proof.Machine.execNop s
  | .modexp rd rs1 rs2 rs3 => Sys2Proof.Machine.execModexp rd rs1 rs2 rs3 s
  | .modinv rd rs1 rs2 => Sys2Proof.Machine.execModinv rd rs1 rs2 s
  | .isprime rs1 => Sys2Proof.Machine.execIsprime rs1 s
  | .genprime rd rs1 => Sys2Proof.Machine.execGenprime rd rs1 s
  | .keygen rd rs1 => Sys2Proof.Machine.execKeygen rd rs1 s

end Sys2Proof.Machine
end

