-- ==== Sys2Proof/Machine/Engine.lean ====
section
/-! DEFINITION. What each event of the total order does (40_control.md R100), and runs over lists and infinite schedules
of events. -/

namespace Sys2Proof.Machine

/-- An engine step is enabled: a command is running and `rst_n` is released (40_control.md R104,
70_reset_and_hazards.md R232). -/
def State.engineEnabled (s : State) : Bool := s.rstN && s.fsm != .idle

/-- The engine is scheduled: the latched word is decoded and its command takes one step; where no step is enabled nothing
happens. A word that is no command cannot have been latched, and faults (40_control.md R104; log entry 8). -/
def engineStep (s : State) : Result :=
  if s.engineEnabled then
    match decode s.cmd with
    | some i => exec i s
    | none => .fault .undispatched
  else .next s

/-- The effect of one event. While `rst_n` is asserted there is no host step and no engine step (70_reset_and_hazards.md
R232). -/
def deliver (e : Event) (s : State) : Result :=
  match e with
  | .bus t => if s.rstN then .next (hostStep t s) else .fault .busAccessInReset
  | .engine => engineStep s
  | .resetAssert => .next s.assertReset
  | .resetRelease => .next s.releaseReset
  | .entropy w => .next (s.offerEntropy w)

/-- One step: the next event of the inbox takes its effect; with an empty inbox the host does nothing more and the engine
is scheduled (40_control.md R100, weak fairness; log entry 4). -/
def takeEvent (s : State) : Result :=
  match s.inbox with
  | [] => deliver .engine s
  | e :: rest => deliver e (s.setInbox rest)

/-- Go on from a next state; a stop stays a stop. -/
def andThen (r : Result) (f : State → Result) : Result :=
  match r with
  | .next s => f s
  | .fault x => .fault x
  | .refused x => .refused x

/-- The events of a list, in order (20_memory.md R70). The inbox plays no part. -/
def deliverAll : List Event → State → Result
  | [], s => .next s
  | e :: es, s => andThen (deliver e s) (deliverAll es)

/-- The first `n` events of an infinite schedule. -/
def trace (sched : Nat → Event) (s : State) : Nat → Result
  | 0 => .next s
  | n + 1 => andThen (trace sched s n) (deliver (sched n))

/-- Accept a word whatever it is, and schedule the engine next: the state in which the next step is the first engine step
of the command (log entry 7). -/
def State.placeCommand (w : Word) (s : State) : State :=
  { (s.accept w) with rstN := true, inbox := .engine :: s.inbox }

end Sys2Proof.Machine
end

