-- ==== Sys2Proof/Machine/Step.lean ====
section
/-! DEFINITION. One step of the machine, and placing a command where the next step runs it. -/

namespace Sys2Proof.Machine

/-- One step: the next event of the total order takes its whole effect. -/
def step (s : State) : Host.Outcome State Fault Refusal := takeEvent s

/-- `s` with the command word `w` accepted and the engine scheduled, so that the next step runs it (log entry 7). A number
of more than 32 bits is no command word (30_encoding.md R80) and changes nothing. -/
def State.withFetchWord (s : State) (nbits w : Nat) : State :=
  match wordOfTable nbits w with
  | some v => s.placeCommand v
  | none => s

end Sys2Proof.Machine
end

