-- ==== Sys2Proof/Machine/Assembler.lean ====
section
/-! DEFINITION. The assembler syntax of 30_encoding.md R88 and R89, one line at a time, on lists of characters. -/

namespace Sys2Proof.Machine

/-- Why a line is refused. -/
inductive AsmError where
  | unknownMnemonic
  /-- too many or too few operands, or a register name outside `x0`..`x7` -/
  | operands
  /-- a KEYGEN whose destination is not `x0` or `x4` -/
  | keygenDest
  deriving DecidableEq, Repr

/-- A blank or a tab (log entry 14). -/
def isBlank (c : Char) : Bool := c == ' ' || c == '\t'

/-- A text without the blanks at both ends. -/
def trimBlanks (t : List Char) : List Char := ((t.dropWhile isBlank).reverse.dropWhile isBlank).reverse

/-- The parts of a text between commas; at least one. -/
def splitCommas : List Char → List (List Char)
  | [] => [[]]
  | c :: rest =>
    if c == ',' then [] :: splitCommas rest
    else
      match splitCommas rest with
      | [] => [[c]]
      | part :: parts => (c :: part) :: parts

/-- The name of a register. -/
def regName (r : Reg) : List Char := ['x', Char.ofNat (48 + r.val)]

/-- A register name `x0`..`x7` (30_encoding.md R88). -/
def parseReg (t : List Char) : Option Reg := ([0, 1, 2, 3, 4, 5, 6, 7] : List Reg).find? fun r => regName r == t

/-- All operands of a line, or none if one of them is no register name. -/
def parseRegs : List (List Char) → Option (List Reg)
  | [] => some []
  | t :: ts =>
    match parseReg (trimBlanks t), parseRegs ts with
    | some r, some rs => some (r :: rs)
    | _, _ => none

/-- The operands of a line: nothing, or register names separated by commas, destination first (30_encoding.md R88). -/
def parseOperands (t : List Char) : Option (List Reg) :=
  if trimBlanks t = [] then some [] else parseRegs (splitCommas t)

/-- The command of a mnemonic in lower case with its operands (30_encoding.md R88, R89). -/
def build (m : List Char) (ops : List Reg) : Except AsmError Instr :=
  if m = ['n', 'o', 'p'] then
    match ops with
    | [] => .ok .nop
    | _ => .error .operands
  else if m = ['m', 'o', 'd', 'e', 'x', 'p'] then
    match ops with
    | [d, b, e, n] => .ok (.modexp d b e n)
    | _ => .error .operands
  else if m = ['e', 'n', 'c'] then
    match ops with
    | [d, b, e, n] => .ok (.enc d b e n)
    | _ => .error .operands
  else if m = ['d', 'e', 'c'] then
    match ops with
    | [d, b, e, n] => .ok (.dec d b e n)
    | _ => .error .operands
  else if m = ['m', 'o', 'd', 'i', 'n', 'v'] then
    match ops with
    | [d, a, n] => .ok (.modinv d a n)
    | _ => .error .operands
  else if m = ['i', 's', 'p', 'r', 'i', 'm', 'e'] then
    match ops with
    | [n] => .ok (.isprime n)
    | _ => .error .operands
  else if m = ['g', 'e', 'n', 'p', 'r', 'i', 'm', 'e'] then
    match ops with
    | [d, b] => .ok (.genprime d b)
    | _ => .error .operands
  else if m = ['k', 'e', 'y', 'g', 'e', 'n'] then
    match ops with
    | [d, t] => if keygenDest d then .ok (.keygen d t) else .error .keygenDest
    | _ => .error .operands
  else .error .unknownMnemonic

/-- Assemble a line: mnemonics are case-insensitive and `;` starts a comment (30_encoding.md R88). A line with nothing
before its comment is no command. -/
def assemble (line : List Char) : Except AsmError (Option Instr) :=
  let text := trimBlanks (line.takeWhile (· != ';'))
  if text = [] then .ok none
  else
    match parseOperands (text.dropWhile (fun c => !isBlank c)) with
    | none => .error .operands
    | some ops =>
      match build ((text.takeWhile (fun c => !isBlank c)).map Char.toLower) ops with
      | .ok i => .ok (some i)
      | .error e => .error e

/-- Operands separated by a comma and a blank. -/
def showRegs : List Reg → List Char
  | [] => []
  | [r] => regName r
  | r :: rs => regName r ++ [',', ' '] ++ showRegs rs

/-- The line of a command (30_encoding.md R88). -/
def disassemble : Instr → List Char
  | .nop => ['N', 'O', 'P']
  | .modexp rd rs1 rs2 rs3 => ['M', 'O', 'D', 'E', 'X', 'P', ' '] ++ showRegs [rd, rs1, rs2, rs3]
  | .modinv rd rs1 rs2 => ['M', 'O', 'D', 'I', 'N', 'V', ' '] ++ showRegs [rd, rs1, rs2]
  | .isprime rs1 => ['I', 'S', 'P', 'R', 'I', 'M', 'E', ' '] ++ showRegs [rs1]
  | .genprime rd rs1 => ['G', 'E', 'N', 'P', 'R', 'I', 'M', 'E', ' '] ++ showRegs [rd, rs1]
  | .keygen rd rs1 => ['K', 'E', 'Y', 'G', 'E', 'N', ' '] ++ showRegs [rd, rs1]

end Sys2Proof.Machine
end

