-- ==== Sys2Proof/Machine/Ports.lean ====
section
/-! DEFINITION. The ports at transaction level (20_memory.md R75): which bus cycle is a transaction, when an entropy word is
taken, and the output pins. Handshake timing is not normative and not modelled. -/

namespace Sys2Proof.Machine

/-- The bus pins in one cycle. -/
structure BusCycle where
  psel : Bool
  penable : Bool
  pwrite : Bool
  paddr : Offset
  pwdata : Word
  pstrb : BitVec 4
  pready : Bool
  deriving DecidableEq, Repr

/-- "A transfer with `psel = 1` and `penable = 1` and `pready = 1` is one host transaction" (20_memory.md R75); the port
carries 32 bits. -/
def BusCycle.transaction (c : BusCycle) : Option Txn :=
  if c.psel && c.penable && c.pready then
    some (if c.pwrite then .write c.paddr 4 c.pstrb c.pwdata else .read c.paddr 4)
  else none

/-- "An entropy word is taken when `ent_valid = 1` and `ent_ready = 1` in the same cycle" (20_memory.md R75). It follows `entReady`, so it holds in every cycle of `GP_DRAW` with a word offered (log entry 21). -/
def wordTaken (entValid : Bool) (b : Block) : Bool := entValid && b.entReady

/-- `pslverr` of an answer (20_memory.md R65, R75). -/
def Response.pslverr : Response → Bool
  | .data _ => false
  | .written => false
  | .readError _ => true
  | .writeError => true

/-- `prdata` of an answer: what a read returns. A write returns no data (log entry 16). -/
def Response.prdata : Response → Option Word
  | .data w => some w
  | .written => none
  | .readError w => some w
  | .writeError => none

end Sys2Proof.Machine
end

