-- ==== Sys2Proof/Machine/HostOps.lean ====
section
/-! DEFINITION. The host's pseudo-operations of 30_encoding.md R90 and their bus transactions. -/

namespace Sys2Proof.Machine

/-- A host pseudo-operation (30_encoding.md R90). -/
inductive HostOp where
  | wr (off : Offset) (v : Word)
  | rd (off : Offset)
  | ldx (i : Reg) (v : Nat)
  | ldxs (i : Reg) (v limbs : Nat)
  | rdx (i : Reg)
  | cmd (c : Instr)
  | wait
  | clrDone
  | clrColl
  | abort (ie : Bool)
  | setIe (b : Bool)
  deriving DecidableEq, Repr

/-- One 32-bit read. -/
def readTxn (off : Offset) : Txn := .read off 4

/-- One 32-bit write. -/
def writeTxn (off : Offset) (v : Word) : Txn := .write off 4 0xF v

/-- `v[32j+31:32j]` as bus data. -/
def limbWord (v j : Nat) : Word := BitVec.ofNat 32 (limb v j)

/-- The writes of limbs `0 .. n-1` of `v` to `X[i]`, in ascending order. -/
def loadTxns (i : Reg) (v n : Nat) : List Txn := (List.range n).map fun j => writeTxn (limbOffset i j) (limbWord v j)

/-- The reads of limbs `0 .. n-1` of `X[i]`, in ascending order. -/
def readTxns (i : Reg) (n : Nat) : List Txn := (List.range n).map fun j => readTxn (limbOffset i j)

/-- The expansion of a pseudo-operation (30_encoding.md R90); WAIT is a host loop, and one turn of it is this read. The
result `r = sum t_j * 2^(32j)` of RDX is `joinWords` of the words read. -/
def HostOp.expand (p : Params) : HostOp → List Txn
  | .wr off v => [writeTxn off v]
  | .rd off => [readTxn off]
  | .ldx i v => loadTxns i v (limbCount p)
  | .ldxs i v limbs => loadTxns i v limbs
  | .rdx i => readTxns i (limbCount p)
  | .cmd c => [writeTxn 0x010 (encode c)]
  | .wait => [readTxn 0x00C]
  | .clrDone => [writeTxn 0x00C 0x00000002]
  | .clrColl => [writeTxn 0x00C 0x00000008]
  | .abort ie => [writeTxn 0x008 (bitWord ie ||| 0x2)]
  | .setIe b => [writeTxn 0x008 (bitWord b)]

/-- The expansion as events. -/
def HostOp.events (p : Params) (op : HostOp) : List Event := (op.expand p).map .bus

/-- WAIT: "repeat `RD 0x00C -> s` until `s[0] = 0`" (30_encoding.md R90), for at most `fuel` reads, under the schedule in
which the engine is scheduled once between two reads. With the fuel used up the host is still waiting. -/
def waitLoop : (fuel : Nat) → State → Result
  | 0, s => .next s
  | fuel + 1, s =>
    andThen (deliver (.bus (readTxn 0x00C)) s) fun t =>
      if s.statusWord.getLsbD 0 then andThen (deliver .engine t) (waitLoop fuel) else .next t

/-- A host program with no control flow but WAIT, each WAIT for at most `fuel` reads. -/
def runHost (fuel : Nat) : List HostOp → State → Result
  | [], s => .next s
  | .wait :: ops, s => andThen (waitLoop fuel s) (runHost fuel ops)
  | op :: ops, s => andThen (deliverAll (op.events s.params) s) (runHost fuel ops)

end Sys2Proof.Machine
end

