-- ==== Sys2Proof/Safety.lean ====
section
/-! DEFINITION. The terms claims are stated in: what a completion leaves, which parts of a state are whose, the invariant
of the machine, and the fair schedules. -/

namespace Sys2Proof.Machine

/-- The state after a completion with `code`: `STATUS` and the internal state as 40_control.md R105 and R106 say. The
operand registers and `PRIME` are stated beside it. -/
def Completed (code : ErrCode) (t : State) : Prop :=
  t.err = code.code ∧ t.done = true ∧ t.busy = false ∧ t.fsm = .idle ∧
    t.gbits = 0 ∧ t.cand = 0 ∧ t.phase = .p ∧ t.kt = 0 ∧ t.kp = 0 ∧ t.kq = 0

/-- What surrounds the block is unchanged, the two sources of draws aside. -/
def SurroundKept (s t : State) : Prop :=
  t.params = s.params ∧ t.rstN = s.rstN ∧ t.inbox = s.inbox ∧ t.responses = s.responses

/-- What no engine step writes is unchanged: `IE`, `COLL`, the latched word and the snapshot, and what surrounds the
block. -/
def EngineKept (s t : State) : Prop :=
  t.ie = s.ie ∧ t.coll = s.coll ∧ t.cmd = s.cmd ∧ t.A = s.A ∧ t.B = s.B ∧ t.C = s.C ∧ SurroundKept s t

/-- No draw was taken. -/
def DrawsKept (s t : State) : Prop := t.entropy = s.entropy ∧ t.bases = s.bases

/-- The fields the host can see are unchanged: the operand registers, `IE` and `STATUS` (10_state.md R20). -/
def HostVisibleKept (s t : State) : Prop :=
  t.X = s.X ∧ t.ie = s.ie ∧ t.busy = s.busy ∧ t.done = s.done ∧ t.prime = s.prime ∧ t.coll = s.coll ∧ t.err = s.err

/-- Every operand register outside the list is unchanged. -/
def OtherRegsKept (ds : List Reg) (s t : State) : Prop := ∀ i, i ∉ ds → t.X.get i = s.X.get i

/-- The operand registers a command's successful completion writes (30_encoding.md R84, 10_state.md R21). -/
def dests : Instr → List Reg
  | .nop => []
  | .modexp rd _ _ _ => [rd]
  | .modinv rd _ _ => [rd]
  | .isprime _ => []
  | .genprime rd _ => [rd]
  | .keygen rd _ => [rd, rd + 1, rd + 2, rd + 3]

/-- A number no rule of which the trial division knows better: in the ROM, or with no factor in it (42_primality.md
R143). -/
def PassesTrial (n : Nat) : Prop := n ∈ smallPrimes ∨ smallFactor n = false

/-- A candidate of the walk of 43_prime_generator.md R161: odd, at least `2^(gbits-1)`, and with a prime not below it and
below `2^(gbits+1)`, at which the walk must stop (R164). -/
def Walking (gbits c : Nat) : Prop :=
  c % 2 = 1 ∧ 2 ^ (gbits - 1) ≤ c ∧ ∃ P, P.Prime ∧ c ≤ P ∧ P < 2 ^ (gbits + 1)

/-- A result of the walk (43_prime_generator.md R163). -/
def Generated (gbits p : Nat) : Prop :=
  p % 2 = 1 ∧ 2 ^ (gbits - 1) ≤ p ∧ p < 2 ^ (gbits + 1) ∧ PassesTrial p

/-- What holds of the internal state while the command `i` runs: which `fsm` states it passes through (10_state.md R39),
the argument range it accepted, and the numbers it has so far. -/
def Running (i : Instr) (s : State) : Prop :=
  match i with
  | .nop | .modexp _ _ _ _ | .modinv _ _ _ | .isprime _ => s.fsm = .start
  | .genprime _ _ =>
    s.fsm = .start ∨
      (s.fsm = .gpDraw ∨ s.fsm = .gpTest ∧ Walking s.gbits s.cand) ∧
        s.gbits = s.A ∧ 2 ≤ s.A ∧ s.A ≤ s.params.width - 1
  | .keygen _ _ =>
    s.fsm = .start ∨
      (s.fsm = .gpDraw ∨ s.fsm = .gpTest ∧ Walking s.gbits s.cand ∨
        s.fsm = .kgInv ∧ s.phase = .q ∧ Generated s.gbits s.kq) ∧
        (s.phase = .q → Generated s.gbits s.kp) ∧
        s.gbits = s.A / 2 + 1 ∧ s.kt = s.A ∧ 2 ≤ s.A ∧ s.A ≤ s.params.width - 4

/-- The invariant of the machine. -/
structure StateInv (s : State) : Prop where
  /-- 00_scope.md R7 -/
  legal : s.params.Legal
  /-- 10_state.md R21: each operand register holds a natural below `2^W` -/
  regs : ∀ i, s.X.get i < 2 ^ s.params.width
  /-- 10_state.md R29 -/
  busy_iff : s.busy = true ↔ s.fsm ≠ .idle
  /-- 10_state.md R30, R33 -/
  running : s.fsm ≠ .idle → s.done = false ∧ s.err = 0
  /-- 60_exceptions.md R201: codes 6 to 15 are never produced -/
  err_le : s.err.toNat ≤ 5
  /-- 10_state.md R36: the zeroised internal state -/
  cleared : s.fsm = .idle ∨ s.fsm = .start →
    s.gbits = 0 ∧ s.cand = 0 ∧ s.phase = .p ∧ s.kt = 0 ∧ s.kp = 0 ∧ s.kq = 0
  /-- 10_state.md R36: the snapshot is of naturals below `2^W` -/
  snapshot : s.fsm ≠ .idle → s.A < 2 ^ s.params.width ∧ s.B < 2 ^ s.params.width ∧ s.C < 2 ^ s.params.width
  /-- 40_control.md R104: the latched word is a command, in a state that its rules dispatch -/
  latched : s.fsm ≠ .idle → ∃ i, decode s.cmd = some i ∧ Running i s
  /-- 70_reset_and_hazards.md R230, R232: while `rst_n` is asserted every item holds its reset value -/
  inReset : s.rstN = false → s.toBlock = Block.reset

/-- A step that changes only the next state's data, not whether there is one. -/
def mapNext (f : State → State) : Result → Result
  | .next s => .next (f s)
  | .fault x => .fault x
  | .refused x => .refused x

/-- `s` with other values in `cmd`, `A`, `B`, `C`. -/
def State.withLatch (s : State) (cmd : Word) (a b c : Nat) : State := { s with cmd := cmd, A := a, B := b, C := c }

/-- Engine steps are weakly fair: the engine is scheduled again and again (40_control.md R100; log entry 13). -/
def EngineFair (sched : Nat → Event) : Prop := ∀ n, ∃ m, n ≤ m ∧ sched m = .engine

/-- The entropy source always eventually supplies a value (00_scope.md R6). -/
def EntropySupplied (sched : Nat → Event) : Prop := ∀ n, ∃ m w, n ≤ m ∧ sched m = .entropy w

/-- A schedule that is fair for a block with the parameters `p`: the engine is weakly fair, and entropy is supplied where
`ENTROPY_FAIR` says so (40_control.md R100). -/
def FairSchedule (p : Params) (sched : Nat → Event) : Prop :=
  EngineFair sched ∧ (p.entropyFair = true → EntropySupplied sched)

/-- The state after `n` engine steps with no event between them. -/
def engineSteps : Nat → State → Result
  | 0, s => .next s
  | n + 1, s => andThen (engineStep s) (engineSteps n)

end Sys2Proof.Machine
end

