-- ==== Sys2Proof/Certificates/Slice0/Obligations.lean ====
section
/-! DEFINITION. The statements for the provers. Each docstring names the rule of spec/ it formalises. -/

open Sys2Proof Sys2Proof.Machine

/-! ## Reset and the invariant -/

/-- 10_state.md R22, 70_reset_and_hazards.md R230, R231: a reset at any time, a running command or not, leaves every operand
register, `IE`, every `STATUS` field and the internal state at the reset value of R230, and there is no completion. The
clauses on `rst_n`, on the events to come and on the answers are the model's choice (log entry 10), and so is that the words
and base draws to come are left (log entries 6 and 10). That `cmd`, `A`, `B`, `C` are 0 is the model's choice too (log entry
3) and is not stated. -/
def Obligations.ResetSetsEveryItem : Prop :=
  ∀ s : State, ∃ t : State, deliver .resetAssert s = .next t ∧
    (∀ i, t.X.get i = 0) ∧ busRead 0x000 t = 0x52534145#32 ∧
    (busRead 0x004 t).toNat = 8 * 2 ^ 24 + 20 * 2 ^ 16 + s.params.width % 2 ^ 16 ∧
    t.ie = false ∧ t.busy = false ∧ t.done = false ∧ t.prime = false ∧ t.coll = false ∧ t.err = 0 ∧
    t.irq = false ∧ t.fsm = .idle ∧ t.gbits = 0 ∧ t.cand = 0 ∧ t.kt = 0 ∧ t.kp = 0 ∧ t.kq = 0 ∧ t.phase = .p ∧
    t.rstN = false ∧ t.params = s.params ∧ t.inbox = s.inbox ∧ t.responses = s.responses ∧ DrawsKept s t

/-- 70_reset_and_hazards.md R232: while `rst_n` is asserted no engine step is taken and no bus transaction is accepted. That
the transaction then stops the machine by a fault is the model's choice (log entry 9). -/
def Obligations.NoStepWhileResetAsserted : Prop :=
  ∀ s : State, s.rstN = false →
    deliver .engine s = .next s ∧ ∀ x, deliver (.bus x) s = .fault .busAccessInReset

/-- The invariant holds right after reset, for every legal width; so it holds at `State.reset`, whose width is the model's
choice (log entry 1). -/
def Obligations.ResetMeetsInvariant : Prop :=
  (∀ p : Params, p.Legal → StateInv (State.resetWith p)) ∧ StateInv State.reset

/-- Every step keeps the invariant: legal width, registers and snapshot below `2^W` (10_state.md R21, R36), `BUSY` exactly
when a command runs (R29), `DONE = 0` while it does (R30), `ERR <= 5` (60_exceptions.md R201), only dispatched pairs of
`fsm` and command (40_control.md R104), the bounds of the prime walk (43_prime_generator.md R163), the zeroised internal
state (10_state.md R36), and, while `rst_n` is asserted, every item of the block at its reset value (70_reset_and_hazards.md
R230, R232). In that last clause the value 0 of `cmd`, `A`, `B`, `C`, which R230 leaves unspecified, is the model's choice
(log entry 3). -/
def Obligations.StepKeepsInvariant : Prop :=
  ∀ s t : State, StateInv s → step s = .next t → StateInv t

/-- 40_control.md R104, R111: out of reset, in every state of the invariant, a step answers a next state: the undispatched
pairs are unreachable and no transaction is refused. -/
def Obligations.InvariantStatesStepOn : Prop :=
  ∀ s : State, StateInv s → s.rstN = true → ∃ t : State, step s = .next t

/-! ## Encoding -/

/-- 30_encoding.md R81, R83, R87: decoding the word of a well-formed command gives the command, whatever its operands. -/
def Obligations.DecodeOfEncode : Prop :=
  ∀ i : Instr, i.wf = true → decode (encode i) = some i

/-- 30_encoding.md R81, R83: a word that decodes is the word of a well-formed command, so each command has one word. -/
def Obligations.EncodeOfDecode : Prop :=
  ∀ (w : Word) (i : Instr), decode w = some i → i.wf = true ∧ encode i = w

/-- 30_encoding.md R85: a word is legal if and only if exactly one row matches it, and the illegal words are those of the
rule's list; written to CMD such a word completes at once with ILLEGAL, or collides while `BUSY = 1`. That the ILLEGAL
completion leaves `cmd`, `A`, `B`, `C` (`EngineKept`) is the model's choice (log entry 3). -/
def Obligations.LegalWordsAreThoseOfOneRow : Prop :=
  (∀ w : Word, (decode w).isSome = true ↔ ∃! r, r ∈ rows ∧ r.selects w = true) ∧
  (∀ w : Word, decode w = none ↔
    6 ≤ w.toNat % 2 ^ 6 ∨ reservedSet w = true ∨ unusedSet w = true ∨
      w.toNat % 2 ^ 6 = 5 ∧ rdField w ≠ 0 ∧ rdField w ≠ 4) ∧
  (∀ (w : Word) (s : State), decode w = none → s.busy = false → ∃ t : State, busWrite 0x010 w s = t ∧
    Completed .illegal t ∧ t.X = s.X ∧ t.prime = s.prime ∧ EngineKept s t ∧ DrawsKept s t) ∧
  (∀ (w : Word) (s : State), s.busy = true → busWrite 0x010 w s = { s with coll := true })

/-- 30_encoding.md R91: the representative words and the illegal examples. -/
def Obligations.RepresentativeWordsDecode : Prop :=
  decode 0x00000000 = some .nop ∧ decode 0x00321501 = some (.modexp 5 1 2 3) ∧
  decode 0x00345601 = some (.modexp 6 5 4 3) ∧ decode 0x00000001 = some (.modexp 0 0 0 0) ∧
  decode 0x00777701 = some (.modexp 7 7 7 7) ∧ decode 0x00021302 = some (.modinv 3 1 2) ∧
  decode 0x00001003 = some (.isprime 1) ∧ decode 0x00007003 = some (.isprime 7) ∧
  decode 0x00001204 = some (.genprime 2 1) ∧ decode 0x00000005 = some (.keygen 0 0) ∧
  decode 0x00000405 = some (.keygen 4 0) ∧ decode 0x00007405 = some (.keygen 4 7) ∧
  decode 0x00000006 = none ∧ decode 0x00000105 = none ∧ decode 0x00101003 = none ∧
  decode 0x00000080 = none ∧ decode 0x00000100 = none ∧ decode 0x80000001 = none

/-- 30_encoding.md R88: assembling the line of a well-formed command gives the command. The spacing of the line is the
model's choice (log entry 14). -/
def Obligations.AssembleOfDisassemble : Prop :=
  ∀ i : Instr, i.wf = true → assemble (disassemble i) = .ok (some i)

/-! ## One step -/

/-- 40_control.md R104: when the engine is scheduled, out of reset and with a command running, the step is `exec` of the
decoded word, at the state without the event; with an empty inbox the engine is scheduled too (log entry 4). -/
def Obligations.StepRunsDecodedCommand : Prop :=
  ∀ (s : State) (i : Instr), s.rstN = true → s.fsm ≠ .idle → decode s.cmd = some i →
    (s.inbox = [] → step s = exec i s) ∧
    (∀ rest, s.inbox = .engine :: rest → step s = exec i { s with inbox := rest })

/-- The word placed by `withFetchWord` is run by the very next step, in the state the accept of 40_control.md R102 leaves
(log entry 7). -/
def Obligations.PlacedWordRunsNext : Prop :=
  ∀ (s : State) (w : Word) (i : Instr), decode w = some i →
    step (s.withFetchWord 32 w.toNat) = exec i { s.accept w with rstN := true }

/-! ## Bus transactions -/

/-- 40_control.md R107: what an aligned 32-bit read returns, and that it changes nothing. -/
def Obligations.ReadReturnsTheTable : Prop :=
  ∀ (s : State) (off : Offset), s.rstN = true → off.toNat % 4 = 0 → ∃ d : Word,
    deliver (.bus (.read off 4)) s = .next { s with responses := s.responses ++ [.data d] } ∧
    (off.toNat = 0x000 → d.toNat = 0x52534145) ∧
    (off.toNat = 0x004 → d.toNat = 8 * 2 ^ 24 + 20 * 2 ^ 16 + s.params.width % 2 ^ 16) ∧
    (off.toNat = 0x008 → d.toNat = s.ie.toNat) ∧
    (off.toNat = 0x00C → d.toNat =
      s.err.toNat * 2 ^ 8 + s.coll.toNat * 2 ^ 3 + s.prime.toNat * 2 ^ 2 + s.done.toNat * 2 + s.busy.toNat) ∧
    (off.toNat = 0x010 → d.toNat = 0) ∧
    (∀ (i : Reg) (j : Nat), j < 256 → off.toNat = 0x400 + 0x400 * i.val + 4 * j →
      d.toNat = if j < s.params.width / 32 then s.X.get i / 2 ^ (32 * j) % 2 ^ 32 else 0) ∧
    ((0x010 < off.toNat ∧ off.toNat < 0x400 ∨ 0x2400 ≤ off.toNat) → d.toNat = 0)

/-- 20_memory.md R66: a write of `v` to a present limb while `BUSY = 0` sets that limb and leaves every other limb of every
register; while `BUSY = 1` it is ignored and sets `COLL`. An absent limb ignores it and does not set `COLL` (R62). -/
def Obligations.LimbWriteSetsOneLimb : Prop :=
  ∀ (s : State) (i : Reg) (j : Nat) (v : Word), s.rstN = true → j < 256 → ∃ t : State,
    deliver (.bus (.write (limbOffset i j) 4 0xF v)) s =
      .next { t with responses := s.responses ++ [.written] } ∧
    (j < s.params.width / 32 → s.busy = false → t = { s with X := t.X } ∧
      ∀ i' j', limb (t.X.get i') j' = if i' = i ∧ j' = j then v.toNat else limb (s.X.get i') j') ∧
    (j < s.params.width / 32 → s.busy = true → t = { s with coll := true }) ∧
    (s.params.width / 32 ≤ j → t = s)

/-- 10_state.md R27: a write of STATUS clears `DONE` by bit 1 and `COLL` by bit 3 and does nothing else, whether `BUSY` or
not; with bit 1 it deasserts `irq` (60_exceptions.md R211). -/
def Obligations.StatusWriteClearsByOne : Prop :=
  ∀ (s : State) (v : Word), s.rstN = true → ∃ t : State,
    deliver (.bus (.write 0x00C 4 0xF v)) s = .next { t with responses := s.responses ++ [.written] } ∧
    t = { s with done := t.done, coll := t.coll } ∧
    t.done = (s.done && !v.getLsbD 1) ∧ t.coll = (s.coll && !v.getLsbD 3) ∧
    (v.getLsbD 1 = true → t.irq = false)

/-- 60_exceptions.md R206, R212: a write of CTRL sets `IE`, and with bit 1 ends the running command with ABORTED, no operand
register written, `PRIME` unchanged, the internal state of 10_state.md R36 discarded; with no command running it has no
further effect. That the abort leaves `cmd` is the model's choice (log entry 3), and so is that it leaves the words and base
draws to come, within GP_DRAW too (log entries 5 and 6). -/
def Obligations.CtrlWriteAborts : Prop :=
  ∀ (s : State) (v : Word), s.rstN = true → ∃ t : State,
    deliver (.bus (.write 0x008 4 0xF v)) s = .next { t with responses := s.responses ++ [.written] } ∧
    t.ie = v.getLsbD 0 ∧
    (v.getLsbD 1 = true → s.busy = true → Completed .aborted t ∧ t.X = s.X ∧ t.prime = s.prime ∧ t.coll = s.coll ∧
      t.cmd = s.cmd ∧ SurroundKept s t ∧ DrawsKept s t) ∧
    (v.getLsbD 1 = false ∨ s.busy = false → t = { s with ie := v.getLsbD 0 })

/-- 40_control.md R101, R102: a write of CMD while `BUSY = 0` completes at once with ILLEGAL, or accepts the word: the word
and the three registers its fields name are latched, `BUSY <- 1`, `DONE <- 0`, `ERR <- 0`, `fsm <- START`, and nothing
else changes. That the ILLEGAL completion leaves `cmd`, `A`, `B`, `C` (`EngineKept`), which R101 does not name and 10_state.md
R36 leaves unspecified in IDLE, is the model's choice (log entry 3). -/
def Obligations.CmdWriteAcceptsOrCompletesIllegal : Prop :=
  ∀ (s : State) (w : Word), s.rstN = true → s.busy = false → ∃ t : State,
    deliver (.bus (.write 0x010 4 0xF w)) s = .next { t with responses := s.responses ++ [.written] } ∧
    (decode w = none → Completed .illegal t ∧ t.X = s.X ∧ t.prime = s.prime ∧ EngineKept s t ∧ DrawsKept s t) ∧
    (decode w ≠ none → t = { s with
      cmd := w
      A := s.X.get (Fin.ofNat 8 (w.toNat / 2 ^ 12 % 8))
      B := s.X.get (Fin.ofNat 8 (w.toNat / 2 ^ 16 % 8))
      C := s.X.get (Fin.ofNat 8 (w.toNat / 2 ^ 20 % 8))
      busy := true
      done := false
      err := 0
      fsm := .start })

/-- 40_control.md R103: a write of CMD while `BUSY = 1` sets `COLL` and changes nothing else, whatever the word is. -/
def Obligations.CmdWriteWhileBusyCollides : Prop :=
  ∀ (s : State) (w : Word), s.rstN = true → s.busy = true →
    deliver (.bus (.write 0x010 4 0xF w)) s =
      .next { s with coll := true, responses := s.responses ++ [.written] }

/-- 20_memory.md R65: a transaction that is not an aligned 32-bit one with all strobes answers `SLVERR`, a read with data
0, and has no effect on any state. -/
def Obligations.OtherTransactionsAnswerSlverr : Prop :=
  ∀ (s : State) (off : Offset) (size : Nat) (strb : BitVec 4) (v : Word), s.rstN = true →
    (size ≠ 4 ∨ off.toNat % 4 ≠ 0 →
      deliver (.bus (.read off size)) s = .next { s with responses := s.responses ++ [.readError 0] }) ∧
    (size ≠ 4 ∨ off.toNat % 4 ≠ 0 ∨ strb ≠ 0xF →
      deliver (.bus (.write off size strb v)) s = .next { s with responses := s.responses ++ [.writeError] })

/-- 20_memory.md R63: at an unmapped offset a read returns 0 and a write is ignored, without error; writes to ID and CONFIG
are ignored too (10_state.md R23, R24). -/
def Obligations.UnmappedReadsZeroAndIgnoresWrites : Prop :=
  ∀ (s : State) (off : Offset) (v : Word), s.rstN = true → off.toNat % 4 = 0 →
    ((0x010 < off.toNat ∧ off.toNat < 0x400 ∨ 0x2400 ≤ off.toNat) →
      deliver (.bus (.read off 4)) s = .next { s with responses := s.responses ++ [.data 0] }) ∧
    ((0x010 < off.toNat ∧ off.toNat < 0x400 ∨ 0x2400 ≤ off.toNat ∨ off.toNat < 0x008) →
      deliver (.bus (.write off 4 0xF v)) s = .next { s with responses := s.responses ++ [.written] })

/-- 20_memory.md R68: reads have no side effect, at any offset and of any size; a write to an operand window, to `CTRL.IE` or
to a read-only or unmapped offset is idempotent, and so is one to STATUS. That the answer to a read is kept in a list is the
model's choice (log entry 16). -/
def Obligations.WritesAreIdempotent : Prop :=
  (∀ (s : State) (off : Offset) (size : Nat), s.rstN = true → ∃ r : Response,
    deliver (.bus (.read off size)) s = .next { s with responses := s.responses ++ [r] }) ∧
  (∀ (s : State) (off : Offset) (v : Word), off.toNat % 4 = 0 → off.toNat ≠ 0x010 →
    (off.toNat = 0x008 → v.getLsbD 1 = false) →
    busWrite off v (busWrite off v s) = busWrite off v s)

/-- 20_memory.md R64: lane `k mod 4` of the word at limb `k div 4` is byte `k` of the register's little-endian
representation. -/
def Obligations.WindowBytesAreLittleEndian : Prop :=
  ∀ (s : State) (i : Reg) (k : Nat), s.params.Legal → k < s.params.width / 8 →
    (busRead (limbOffset i (k / 4)) s).toNat / 2 ^ (8 * (k % 4)) % 2 ^ 8 = s.X.get i / 2 ^ (8 * k) % 2 ^ 8

/-- 70_reset_and_hazards.md R241, 30_encoding.md R90: LDX loads the value; LDXS of `L` limbs loads the low limbs and leaves
the stale upper ones; no other register and no other state changes. -/
def Obligations.LdxLoadsAndLdxsLeavesUpperLimbs : Prop :=
  ∀ (s : State) (i : Reg) (v n : Nat), s.rstN = true → s.busy = false → s.params.Legal →
    s.X.get i < 2 ^ s.params.width → v < 2 ^ s.params.width → n ≤ s.params.width / 32 →
    (∃ t : State, deliverAll ((HostOp.ldx i v).events s.params) s = .next t ∧ t.X.get i = v ∧ OtherRegsKept [i] s t ∧
      t = { s with X := t.X, responses := t.responses }) ∧
    (∃ t : State, deliverAll ((HostOp.ldxs i v n).events s.params) s = .next t ∧
      t.X.get i = s.X.get i / 2 ^ (32 * n) * 2 ^ (32 * n) + v % 2 ^ (32 * n) ∧ OtherRegsKept [i] s t ∧
      t = { s with X := t.X, responses := t.responses })

/-- 30_encoding.md R90: the words RDX reads join to the register's value, and nothing changes. -/
def Obligations.RdxReadsTheRegister : Prop :=
  ∀ (s : State) (i : Reg), s.rstN = true → s.params.Legal → s.X.get i < 2 ^ s.params.width → ∃ ws : List Word,
    deliverAll ((HostOp.rdx i).events s.params) s =
      .next { s with responses := s.responses ++ ws.map .data } ∧
    ws.length = s.params.width / 32 ∧ joinWords ws = s.X.get i

/-! ## Arithmetic -/

/-- 41_arith.md R121: the loop of `modexp` gives `b^e mod m`, with `0^0 = 1`. -/
def Obligations.ModexpIsPowerModulo : Prop :=
  ∀ b e m : Nat, 2 ≤ m → modexp b e m = b ^ e % m

/-- 41_arith.md R121: `xgcd(a, m)` is the greatest common divisor with the coefficient of `a` reduced to `[0, m)`. -/
def Obligations.XgcdIsBezout : Prop :=
  ∀ a m : Nat, 1 ≤ m →
    (xgcd a m).1 = Nat.gcd a m ∧ (xgcd a m).2 < m ∧ a * (xgcd a m).2 % m = (xgcd a m).1 % m

/-- 42_primality.md R142: `decompose` splits off the powers of two, and a round passes exactly when `a^d` is 1 or one of
`a^d`, `a^(2d)`, …, `a^(2^(s-1) d)` is `n - 1` modulo `n`. -/
def Obligations.RoundIsTheStrongTest : Prop :=
  ∀ n : Nat, n % 2 = 1 → 5 ≤ n →
    1 ≤ (decompose n).1 ∧ (decompose n).2 % 2 = 1 ∧ n - 1 = 2 ^ (decompose n).1 * (decompose n).2 ∧
    ∀ a, 2 ≤ a → a ≤ n - 2 →
      (mrRound n a = true ↔
        a ^ (decompose n).2 % n = 1 ∨ ∃ r, r < (decompose n).1 ∧ a ^ (2 ^ r * (decompose n).2) % n = n - 1)

/-- 42_primality.md R146, 1: a prime passes under every sequence of draws. -/
def Obligations.PrimesPassUnderEveryDraw : Prop :=
  ∀ (n : Nat) (b : BaseSource), n.Prime → (isPrimeFn n b).1 = true

/-- 42_primality.md R144, R143: the verdict on a number that passes the trial division is that of its rounds over the bases
drawn, and exactly the bases of the rounds taken are consumed. -/
def Obligations.VerdictIsThatOfTheRoundsTaken : Prop :=
  ∀ (n : Nat) (bs rest : List Nat) (k : Nat), 2 ≤ n → n ∉ smallPrimes → smallFactor n = false →
    bs.length = 20 → (∀ a ∈ bs, 2 ≤ a ∧ a ≤ n - 2) →
    ((∀ a ∈ bs, mrRound n a = true) → isPrimeFn n ⟨bs ++ rest, k⟩ = (true, ⟨rest, k⟩)) ∧
    (∀ pre a post, bs = pre ++ a :: post → (∀ c ∈ pre, mrRound n c = true) → mrRound n a = false →
      isPrimeFn n ⟨bs ++ rest, k⟩ = (false, ⟨post ++ rest, k⟩))

/-- 42_primality.md R146, 2: a composite that reaches Miller–Rabin is rejected under some draws, and 1373653 is accepted
under others, so the model makes composites neither always false nor always true. -/
def Obligations.CompositesAreRejectedUnderSomeDraws : Prop :=
  (∀ n : Nat, 2 ≤ n → ¬ n.Prime → n ∉ smallPrimes → smallFactor n = false →
    ∃ a, 2 ≤ a ∧ a ≤ n - 2 ∧ ∀ rest k, (isPrimeFn n ⟨a :: rest, k⟩).1 = false) ∧
  (¬ Nat.Prime 1373653 ∧ ∀ rest k, (isPrimeFn 1373653 ⟨List.replicate 20 2 ++ rest, k⟩).1 = true)

/-- 42_primality.md R147: Miller–Rabin is reached only for odd `n >= 547` with no prime factor at or below 541, so that
`decompose` has `s >= 1` and a base exists; the least composite that reaches it is `547^2 = 299209`; and below it the
verdict is true exactly for the primes. -/
def Obligations.VerdictIsExactBelow299209 : Prop :=
  (∀ n : Nat, 2 ≤ n → n ∉ smallPrimes → smallFactor n = false →
    n % 2 = 1 ∧ 547 ≤ n ∧ (∀ p, p.Prime → p ∣ n → 541 < p) ∧ 1 ≤ (decompose n).1 ∧ 2 ≤ n - 2 ∧
      (¬ n.Prime → 299209 ≤ n)) ∧
  (299209 = 547 ^ 2 ∧ 299209 ∉ smallPrimes ∧ smallFactor 299209 = false) ∧
  (∀ (n : Nat) (b : BaseSource), 2 ≤ n → n < 299209 → ((isPrimeFn n b).1 = true ↔ n.Prime))

/-! ## The commands -/

/-- 40_control.md R109: only the all-zero word is NOP; its start step completes with `ERR = 0` and changes neither a
register nor `PRIME` nor `COLL`; an abort before that step completes it with ABORTED instead. That the completion leaves
`cmd`, `A`, `B`, `C` (`EngineKept`) is the model's choice (log entry 3). -/
def Obligations.NopCompletes : Prop :=
  (∀ w : Word, decode w = some .nop ↔ w = 0) ∧
  ∀ s : State, s.fsm = .start →
    (∃ t : State, exec .nop s = .next t ∧ Completed .ok t ∧ t.X = s.X ∧ t.prime = s.prime ∧ EngineKept s t ∧ DrawsKept s t) ∧
    (s.busy = true → ∃ t : State, busWrite 0x008 2 s = t ∧ Completed .aborted t ∧ t.X = s.X ∧ t.prime = s.prime ∧
      t.coll = s.coll)

/-- 41_arith.md R122, R124: MODEXP completes with INVALID_KEY and no register written for a modulus of 0 or 1, and else with
`X[rd] = A^B mod C` (1 for `B = 0`), every other register, `PRIME`, `COLL` and the draws unchanged. That the completion
leaves `cmd`, `A`, `B`, `C` (`EngineKept`) is the model's choice (log entry 3). -/
def Obligations.ModexpCompletes : Prop :=
  ∀ (rd rs1 rs2 rs3 : Reg) (s : State), s.fsm = .start →
    ∃ t : State, exec (.modexp rd rs1 rs2 rs3) s = .next t ∧ t.prime = s.prime ∧ EngineKept s t ∧ DrawsKept s t ∧
      (s.C ≤ 1 → Completed .invalidKey t ∧ t.X = s.X) ∧
      (2 ≤ s.C → Completed .ok t ∧ t.X.get rd = s.A ^ s.B % s.C ∧ OtherRegsKept [rd] s t)

/-- 41_arith.md R123, R124: MODINV completes with BAD_ARG for modulus 0, else with NO_INVERSE where `gcd(A, B) != 1`, and
else with the least non-negative inverse (0 for modulus 1). That the completion leaves `cmd`, `A`, `B`, `C` (`EngineKept`) is
the model's choice (log entry 3). -/
def Obligations.ModinvCompletes : Prop :=
  ∀ (rd rs1 rs2 : Reg) (s : State), s.fsm = .start →
    ∃ t : State, exec (.modinv rd rs1 rs2) s = .next t ∧ t.prime = s.prime ∧ EngineKept s t ∧ DrawsKept s t ∧
      (s.B = 0 → Completed .badArg t ∧ t.X = s.X) ∧
      (s.B ≠ 0 → Nat.gcd s.A s.B ≠ 1 → Completed .noInverse t ∧ t.X = s.X) ∧
      (s.B ≠ 0 → Nat.gcd s.A s.B = 1 → Completed .ok t ∧ t.X.get rd < s.B ∧
        s.A * t.X.get rd % s.B = 1 % s.B ∧ OtherRegsKept [rd] s t)

/-- 42_primality.md R145: ISPRIME completes with `PRIME` the verdict, in the same step, and writes no operand register; the
verdict is true for a prime, and false for 0, 1 and every number above 541 with a prime factor in the ROM. That the completion
leaves `cmd`, `A`, `B`, `C` (`EngineKept`) is the model's choice (log entry 3). -/
def Obligations.IsprimeCompletes : Prop :=
  ∀ (rs1 : Reg) (s : State), s.fsm = .start →
    ∃ t : State, exec (.isprime rs1) s = .next t ∧ Completed .ok t ∧ t.X = s.X ∧ EngineKept s t ∧ t.entropy = s.entropy ∧
      (t.prime, t.bases) = isPrimeFn s.A s.bases ∧
      (s.A.Prime → t.prime = true) ∧ (s.A < 2 → t.prime = false) ∧
      (541 < s.A → (∃ p ∈ smallPrimes, p ∣ s.A) → t.prime = false ∧ t.bases = s.bases)

/-- 43_prime_generator.md R162, the start step: BAD_ARG unless `2 <= A <= W - 1`, else `gbits <- A`, `fsm <- GP_DRAW` and
nothing else changes. That the BAD_ARG completion leaves `cmd`, `A`, `B`, `C` (`EngineKept`) is the model's choice (log entry
3). -/
def Obligations.GenprimeStarts : Prop :=
  ∀ (rd rs1 : Reg) (s : State), s.fsm = .start → s.params.Legal →
    (2 ≤ s.A ∧ s.A ≤ s.params.width - 1 →
      exec (.genprime rd rs1) s = .next { s with gbits := s.A, fsm := .gpDraw }) ∧
    (s.A < 2 ∨ s.params.width - 1 < s.A →
      ∃ t : State, exec (.genprime rd rs1) s = .next t ∧ Completed .badArg t ∧ t.X = s.X ∧ t.prime = s.prime ∧
        EngineKept s t ∧ DrawsKept s t)

/-- 43_prime_generator.md R160, R165: the candidate draw step of GENPRIME and KEYGEN. With `ceil(gbits/32)` words offered it
consumes them, their low `gbits` bits are the draw `r`, and `cand = r | (1 << (gbits-1)) | 1` is odd with exactly `gbits`
bits; with fewer words the step is not enabled, and scheduling it changes nothing (the model's form, log entry 6). -/
def Obligations.CandidateDrawnHasTheBits : Prop :=
  ∀ (i : Instr) (rd rs1 : Reg) (s : State), i = .genprime rd rs1 ∨ i = .keygen rd rs1 → s.fsm = .gpDraw →
    2 ≤ s.gbits →
    (s.entropy.length < (s.gbits + 31) / 32 → exec i s = .next s) ∧
    (∀ ws rest, s.entropy = ws ++ rest → ws.length = (s.gbits + 31) / 32 → ∃ t : State, exec i s = .next t ∧
      t = { s with entropy := rest, fsm := .gpTest, cand := t.cand } ∧
      t.cand = (joinWords ws % 2 ^ s.gbits) ||| (1 <<< (s.gbits - 1)) ||| 1 ∧
      t.cand % 2 = 1 ∧ 2 ^ (s.gbits - 1) ≤ t.cand ∧ t.cand < 2 ^ s.gbits)

/-- 43_prime_generator.md R161 for GENPRIME: a candidate that passes is written to `X[rd]` and the command completes; one
that fails is advanced by 2 and only the base draws move. That the completion leaves `cmd`, `A`, `B`, `C` (`EngineKept`) is
the model's choice (log entry 3). -/
def Obligations.GenprimeTestsACandidate : Prop :=
  ∀ (rd rs1 : Reg) (s : State), s.fsm = .gpTest →
    ∃ t : State, exec (.genprime rd rs1) s = .next t ∧ t.bases = (isPrimeFn s.cand s.bases).2 ∧
      ((isPrimeFn s.cand s.bases).1 = true → Completed .ok t ∧ t.X.get rd = s.cand ∧ OtherRegsKept [rd] s t ∧
        t.prime = s.prime ∧ t.entropy = s.entropy ∧ EngineKept s t) ∧
      ((isPrimeFn s.cand s.bases).1 = false → t = { s with cand := s.cand + 2, bases := t.bases })

/-- 44_key_derivation.md R180, R181, the start step: BAD_ARG unless `2 <= A <= W - 4`, else `T` is kept, `gbits = T div 2 +
1`, phase P and GP_DRAW, and nothing else changes. That the BAD_ARG completion leaves `cmd`, `A`, `B`, `C` (`EngineKept`) is
the model's choice (log entry 3). -/
def Obligations.KeygenStarts : Prop :=
  ∀ (rd rs1 : Reg) (s : State), s.fsm = .start → s.params.Legal →
    (2 ≤ s.A ∧ s.A ≤ s.params.width - 4 →
      exec (.keygen rd rs1) s = .next { s with kt := s.A, gbits := s.A / 2 + 1, phase := .p, fsm := .gpDraw }) ∧
    (s.A < 2 ∨ s.params.width - 4 < s.A →
      ∃ t : State, exec (.keygen rd rs1) s = .next t ∧ Completed .badArg t ∧ t.X = s.X ∧ t.prime = s.prime ∧
        EngineKept s t ∧ DrawsKept s t)

/-- 43_prime_generator.md R161 for KEYGEN: a candidate that passes is `p` and the second prime is drawn next, or it is `q`
and the key is derived next; one that fails is advanced by 2. -/
def Obligations.KeygenTestsACandidate : Prop :=
  ∀ (rd rs1 : Reg) (s : State), s.fsm = .gpTest →
    ∃ t : State, exec (.keygen rd rs1) s = .next t ∧ t.bases = (isPrimeFn s.cand s.bases).2 ∧
      ((isPrimeFn s.cand s.bases).1 = true → s.phase = .p →
        t = { s with kp := s.cand, phase := .q, fsm := .gpDraw, bases := t.bases }) ∧
      ((isPrimeFn s.cand s.bases).1 = true → s.phase = .q →
        t = { s with kq := s.cand, fsm := .kgInv, bases := t.bases }) ∧
      ((isPrimeFn s.cand s.bases).1 = false → t = { s with cand := s.cand + 2, bases := t.bases })

/-- 44_key_derivation.md R182, R183: where 65537 is invertible modulo `phi`, KEYGEN completes with `e`, `d`, `n`, `T` in
`X[rd]` to `X[rd+3]` and every other register unchanged; else both primes are generated again and nothing else changes. For
an `rd` other than 0 and 4, which no word has, that the four indices wrap modulo 8 is the model's (log entry 17, DEDUCED);
that the completion leaves `cmd`, `A`, `B`, `C` (`EngineKept`) is the model's choice (log entry 3). -/
def Obligations.KeygenDerivesTheKey : Prop :=
  ∀ (rd rs1 : Reg) (s : State), s.fsm = .kgInv → 2 ≤ s.kp → 2 ≤ s.kq →
    (Nat.gcd 65537 ((s.kp - 1) * (s.kq - 1)) = 1 →
      ∃ t : State, exec (.keygen rd rs1) s = .next t ∧ Completed .ok t ∧
        t.X.get rd = 65537 ∧ t.X.get (rd + 1) < (s.kp - 1) * (s.kq - 1) ∧
        65537 * t.X.get (rd + 1) % ((s.kp - 1) * (s.kq - 1)) = 1 % ((s.kp - 1) * (s.kq - 1)) ∧
        t.X.get (rd + 2) = s.kp * s.kq ∧ t.X.get (rd + 3) = s.kt ∧
        OtherRegsKept [rd, rd + 1, rd + 2, rd + 3] s t ∧ t.prime = s.prime ∧ EngineKept s t ∧ DrawsKept s t) ∧
    (Nat.gcd 65537 ((s.kp - 1) * (s.kq - 1)) ≠ 1 →
      exec (.keygen rd rs1) s = .next { s with phase := .p, fsm := .gpDraw })

/-- 40_control.md R102, R103, 20_memory.md R66, R73: after a write of any well-formed command to CMD, later writes to CMD
and to operand windows set `COLL` at most (those to absent limbs not even that) and leave the latched word, the snapshot and
every register as the accept left them; the next engine step is one of that command on that snapshot. So MODEXP gives
`X[rs1]^X[rs2] mod X[rs3]` of the registers at its CMD write. -/
def Obligations.CommandRunsOnItsSnapshot : Prop :=
  ∀ (s : State) (i : Instr) (ws : List (Offset × Word)), s.rstN = true → s.busy = false → i.wf = true →
    (∀ x ∈ ws, x.1 = 0x010 ∨ ∃ r j, j < 256 ∧ x.1 = limbOffset r j) → ∃ t : State,
    deliverAll (.bus (writeTxn 0x010 (encode i)) :: ws.map fun x => .bus (writeTxn x.1 x.2)) s = .next t ∧
    t = { s with
      cmd := encode i
      A := s.X.get (Fin.ofNat 8 ((encode i).toNat / 2 ^ 12 % 8))
      B := s.X.get (Fin.ofNat 8 ((encode i).toNat / 2 ^ 16 % 8))
      C := s.X.get (Fin.ofNat 8 ((encode i).toNat / 2 ^ 20 % 8))
      busy := true
      done := false
      err := 0
      fsm := .start
      coll := t.coll
      responses := t.responses } ∧
    (t.coll = true ↔ s.coll = true ∨
      ∃ x ∈ ws, x.1 = 0x010 ∨ ∃ r j, j < s.params.width / 32 ∧ x.1 = limbOffset r j) ∧
    deliver .engine t = exec i t ∧
    ∀ rd rs1 rs2 rs3, i = .modexp rd rs1 rs2 rs3 → 2 ≤ s.X.get rs3 → ∃ u : State, exec i t = .next u ∧
      Completed .ok u ∧ u.X.get rd = s.X.get rs1 ^ s.X.get rs2 % s.X.get rs3 ∧ OtherRegsKept [rd] s u

/-! ## Frames and whole-machine rules -/

/-- The frame of every command: an engine step changes no operand register but the command's destinations, and those only
in a successful completion; `IE`, `COLL`, the latched word, the snapshot and the answers never; `PRIME` only by ISPRIME;
entropy words only in GP_DRAW; base draws only in GP_TEST and ISPRIME (10_state.md R21, R31, R34, 42_primality.md R148). That
a completion leaves the latched word and the snapshot, which 10_state.md R36 leaves unspecified in IDLE, is the model's choice
(log entry 3); that the destinations of an ill-formed KEYGEN wrap modulo 8 is the model's too (log entry 17, DEDUCED). -/
def Obligations.EngineStepFrame : Prop :=
  ∀ (i : Instr) (s t : State), exec i s = .next t →
    OtherRegsKept (dests i) s t ∧ EngineKept s t ∧
    (t.X ≠ s.X → Completed .ok t) ∧
    (t.prime ≠ s.prime → ∃ rs1, i = .isprime rs1) ∧
    (t.entropy ≠ s.entropy → s.fsm = .gpDraw) ∧
    (t.bases ≠ s.bases → s.fsm = .gpTest ∨ ∃ rs1, i = .isprime rs1)

/-- 40_control.md R110: between accept and completion a command changes only internal state. -/
def Obligations.RunningCommandIsInvisible : Prop :=
  ∀ (i : Instr) (s t : State), exec i s = .next t → t.fsm ≠ .idle → HostVisibleKept s t

/-- 60_exceptions.md R203, R204, R205: which engine step ends with which error code; an error completion writes no operand
register (R200). -/
def Obligations.ErrorCodesAreRaisedByTheirCommands : Prop :=
  ∀ (i : Instr) (s t : State), s.err = 0 → s.params.Legal → exec i s = .next t →
    (t.err = 2 ↔ (∃ rd rs1 rs2 rs3, i = .modexp rd rs1 rs2 rs3) ∧ s.C ≤ 1) ∧
    (t.err = 3 ↔ (∃ rd rs1 rs2, i = .modinv rd rs1 rs2) ∧ 1 ≤ s.B ∧ Nat.gcd s.A s.B ≠ 1) ∧
    (t.err = 4 ↔ (∃ rd rs1 rs2, i = .modinv rd rs1 rs2) ∧ s.B = 0 ∨
      (∃ rd rs1, i = .genprime rd rs1) ∧ s.fsm = .start ∧ (s.A < 2 ∨ s.params.width - 1 < s.A) ∨
      (∃ rd rs1, i = .keygen rd rs1) ∧ s.fsm = .start ∧ (s.A < 2 ∨ s.params.width - 4 < s.A)) ∧
    t.err ≠ 1 ∧ t.err ≠ 5 ∧
    (t.err ≠ 0 → t.X = s.X ∧ t.prime = s.prime ∧ t.done = true ∧ t.busy = false ∧ t.fsm = .idle)

/-- 10_state.md R31: only the successful completion of an ISPRIME, with its verdict, and a reset, to 0, change `PRIME`. -/
def Obligations.OnlyIsprimeChangesPrime : Prop :=
  ∀ s t : State, step s = .next t → t.prime ≠ s.prime →
    ((s.inbox = [] ∨ ∃ rest, s.inbox = .engine :: rest) ∧ s.fsm = .start ∧
      (∃ rs1, decode s.cmd = some (.isprime rs1)) ∧ Completed .ok t ∧ t.prime = (isPrimeFn s.A s.bases).1) ∨
    ((∃ rest, s.inbox = .resetAssert :: rest) ∧ t.prime = false)

/-- 10_state.md R34, R25: only a write of CTRL, to its bit 0, and a reset, to 0, change `IE`. -/
def Obligations.OnlyCtrlWriteOrResetChangesIe : Prop :=
  ∀ s t : State, step s = .next t → t.ie ≠ s.ie →
    (∃ v rest, s.inbox = .bus (.write 0x008 4 0xF v) :: rest ∧ t.ie = v.getLsbD 0) ∨
    ((∃ rest, s.inbox = .resetAssert :: rest) ∧ t.ie = false)

/-- 10_state.md R32: `COLL` is set only by a write to CMD or to a present limb of an operand window while `BUSY = 1`, which
does nothing else, and cleared only by a write of STATUS with bit 3 or by a reset. -/
def Obligations.CollisionIsTheOnlySourceOfColl : Prop :=
  ∀ s t : State, step s = .next t → t.coll ≠ s.coll →
    (t.coll = true ∧ s.busy = true ∧ (∃ off v rest, s.inbox = .bus (.write off 4 0xF v) :: rest ∧
        (off = 0x010 ∨ ∃ i j, j < s.params.width / 32 ∧ target off = .limb i j) ∧
        t = { s with coll := true, inbox := rest, responses := s.responses ++ [.written] })) ∨
    (t.coll = false ∧
      ((∃ v rest, s.inbox = .bus (.write 0x00C 4 0xF v) :: rest ∧ v.getLsbD 3 = true) ∨
        ∃ rest, s.inbox = .resetAssert :: rest))

/-- 10_state.md R21: an operand register changes only by a host write to its window while `BUSY = 0`, by a successful
completion, to a destination of the command, or by a reset. -/
def Obligations.OperandRegistersChangeOnlyAsListed : Prop :=
  ∀ (s t : State) (i : Reg), step s = .next t → t.X.get i ≠ s.X.get i →
    (s.busy = false ∧ ∃ off v rest j, s.inbox = .bus (.write off 4 0xF v) :: rest ∧
      target off = .limb i j ∧ j < s.params.width / 32) ∨
    ((s.inbox = [] ∨ ∃ rest, s.inbox = .engine :: rest) ∧
      (∃ c, decode s.cmd = some c ∧ i ∈ dests c) ∧ Completed .ok t) ∨
    ((∃ rest, s.inbox = .resetAssert :: rest) ∧ t.X.get i = 0)

/-- 60_exceptions.md R213, 10_state.md R35: the interrupt line rises only in the step of a completion with `IE = 1` or when
a write of CTRL enables it with `DONE = 1`. -/
def Obligations.InterruptRisesOnlyByCompletionOrEnable : Prop :=
  ∀ s t : State, step s = .next t → s.irq = false → t.irq = true →
    (s.done = false ∧ t.done = true ∧ t.busy = false ∧ t.fsm = .idle ∧ t.ie = true) ∨
    (s.done = true ∧ ∃ v rest, s.inbox = .bus (.write 0x008 4 0xF v) :: rest ∧ v.getLsbD 0 = true)

/-- 60_exceptions.md R209: an abort and the completing engine step of a command take effect in either order. The abort
first, in any state with a command running: ABORTED, no register written, and no further engine step of the command however
often the engine is scheduled. The completing engine step first: the command's own completion, on which the abort has no
effect but its write of `IE`. -/
def Obligations.AbortAndCompletionInEitherOrder : Prop :=
  ∀ (s : State) (v : Word), s.rstN = true → s.busy = true → v.getLsbD 1 = true →
    (∃ t : State, (∀ n, deliverAll (.bus (.write 0x008 4 0xF v) :: List.replicate n .engine) s = .next t) ∧
      Completed .aborted t ∧ t.X = s.X ∧ t.prime = s.prime ∧ t.ie = v.getLsbD 0) ∧
    ∀ u : State, engineStep s = .next u → s.fsm ≠ .idle → u.fsm = .idle →
      deliverAll [.engine, .bus (.write 0x008 4 0xF v)] s =
        .next { u with ie := v.getLsbD 0, responses := u.responses ++ [.written] }

/-- 10_state.md R36: no rule reads `cmd`, `A`, `B`, `C` in IDLE: two machines that differ only there answer every event
alike, with the same data, and afterwards differ at most there. -/
def Obligations.IdleLatchIsNotObservable : Prop :=
  ∀ (s : State) (e : Event) (cmd : Word) (a b c : Nat), s.fsm = .idle → s.busy = false →
    ∃ cmd' a' b' c', deliver e (s.withLatch cmd a b c) = mapNext (·.withLatch cmd' a' b' c') (deliver e s)

/-- 60_exceptions.md R215, 44_key_derivation.md R183: the data of a read depends only on the fields the host can see; the
internal state, KEYGEN's primes among it, is never readable. -/
def Obligations.ReadsDependOnVisibleStateOnly : Prop :=
  ∀ (s t : State) (x : Txn), HostVisibleKept s t → t.params = s.params → x.answer t = x.answer s

/-! ## Headline results -/

/-- 43_prime_generator.md R164: once the candidate is drawn the walk stops at or before any prime `P` not below it, within
`(P - cand)/2 + 1` test steps, and GENPRIME completes, under every sequence of base draws. -/
def Obligations.PrimeWalkIsBounded : Prop :=
  ∀ (s : State) (rd rs1 : Reg) (P : Nat), s.rstN = true → s.fsm = .gpTest →
    decode s.cmd = some (.genprime rd rs1) → 3 ≤ s.cand → s.cand % 2 = 1 → P.Prime → s.cand ≤ P →
    ∃ n t, n ≤ (P - s.cand) / 2 + 1 ∧ engineSteps n s = .next t ∧ Completed .ok t ∧
      s.cand ≤ t.X.get rd ∧ t.X.get rd ≤ P ∧ t.X.get rd % 2 = 1 ∧ OtherRegsKept [rd] s t

/-- 43_prime_generator.md R162, R163: GENPRIME given its entropy words completes, from its start step, with an odd result
`p`, `2^(bits-1) <= p < 2^(bits+1)`, that passes the trial division. -/
def Obligations.GenprimeGivenEntropyCompletes : Prop :=
  ∀ (s : State) (rd rs1 : Reg), s.rstN = true → s.fsm = .start → decode s.cmd = some (.genprime rd rs1) →
    s.params.Legal → 2 ≤ s.A → s.A ≤ s.params.width - 1 → (s.A + 31) / 32 ≤ s.entropy.length →
    ∃ n t, engineSteps n s = .next t ∧ Completed .ok t ∧ t.X.get rd % 2 = 1 ∧ 2 ^ (s.A - 1) ≤ t.X.get rd ∧
      t.X.get rd < 2 ^ (s.A + 1) ∧ (t.X.get rd ∈ smallPrimes ∨ smallFactor (t.X.get rd) = false) ∧
      OtherRegsKept [rd] s t ∧ t.entropy = s.entropy.drop ((s.A + 31) / 32)

/-- 40_control.md R100, 43_prime_generator.md R164, R165: with `ENTROPY_FAIR`, a running GENPRIME ends on every fair
schedule, whatever the host and the reset pin do meanwhile. What a fair schedule is, `FairSchedule`, is the model's reading of
R100 (log entry 13, DEDUCED, unsafe for liveness). -/
def Obligations.GenprimeEndsOnEveryFairSchedule : Prop :=
  ∀ (s : State) (rd rs1 : Reg) (sched : Nat → Event), StateInv s → s.rstN = true → s.fsm ≠ .idle →
    decode s.cmd = some (.genprime rd rs1) → s.params.entropyFair = true → FairSchedule s.params sched →
    ∃ n t, trace sched s n = .next t ∧ t.fsm = .idle

/-- 44_key_derivation.md R186, 1 to 3: in a state of the invariant, a KEYGEN that completes leaves `e = 65537`, `d < phi` an
inverse of `e`, `n = p * q` with `2^(2 gbits - 2) <= n < 2^(2 gbits + 2)` and `n < 2^W`, and `T` as requested. -/
def Obligations.KeygenResultsAreAKey : Prop :=
  ∀ (s t : State) (rd rs1 : Reg), StateInv s → s.fsm = .kgInv → decode s.cmd = some (.keygen rd rs1) →
    exec (.keygen rd rs1) s = .next t → t.fsm = .idle →
    t.X.get rd = 65537 ∧ t.X.get (rd + 1) < (s.kp - 1) * (s.kq - 1) ∧
    65537 * t.X.get (rd + 1) % ((s.kp - 1) * (s.kq - 1)) = 1 ∧ 4 ≤ (s.kp - 1) * (s.kq - 1) ∧
    t.X.get (rd + 2) = s.kp * s.kq ∧ 2 ^ (2 * s.gbits - 2) ≤ s.kp * s.kq ∧ s.kp * s.kq < 2 ^ (2 * s.gbits + 2) ∧
    s.kp * s.kq < 2 ^ s.params.width ∧ t.X.get (rd + 3) = s.A

/-- 44_key_derivation.md R186, 5: RSA correctness of the block's own functions: with distinct primes and the inverse `d` of
65537 modulo `phi`, deciphering the enciphered block gives the block. -/
def Obligations.RoundTripWithDistinctPrimes : Prop :=
  ∀ p q m : Nat, p.Prime → q.Prime → p ≠ q → (xgcd 65537 ((p - 1) * (q - 1))).1 = 1 → m < p * q →
    modexp (modexp m 65537 (p * q)) (xgcd 65537 ((p - 1) * (q - 1))).2 (p * q) = m

/-- 44_key_derivation.md R187: for `T <= 33` the first derivation completes, so KEYGEN given two entropy words ends with a
key of its own, from its start step, under every sequence of draws. -/
def Obligations.SmallKeygenCompletes : Prop :=
  ∀ (s : State) (rd rs1 : Reg), StateInv s → s.rstN = true → s.fsm = .start → decode s.cmd = some (.keygen rd rs1) →
    2 ≤ s.A → s.A ≤ 33 → 2 ≤ s.entropy.length →
    ∃ n t, engineSteps n s = .next t ∧ Completed .ok t ∧ t.X.get rd = 65537 ∧ t.X.get (rd + 3) = s.A ∧
      OtherRegsKept [rd, rd + 1, rd + 2, rd + 3] s t ∧ t.entropy = s.entropy.drop 2

/-- 44_key_derivation.md R184, R187: exactly where `p` or `q` is 1 modulo 65537 both primes are generated again with
`gbits` unchanged and no error reported; and a run with a retry exists. With `T = 38` and the draws 917519 and 524309 first
offered, any KEYGEN comes from START back to GP_DRAW in phase P in six engine steps, under every sequence of base draws; and
the host brings that about from reset, at every legal width. -/
def Obligations.RetryIsAdmitted : Prop :=
  (∀ (s : State) (rd rs1 : Reg), s.fsm = .kgInv → 2 ≤ s.kp → 2 ≤ s.kq →
    (exec (.keygen rd rs1) s = .next { s with phase := .p, fsm := .gpDraw } ↔
      s.kp % 65537 = 1 ∨ s.kq % 65537 = 1)) ∧
  (∀ (s : State) (rd rs1 : Reg) (rest : List Word), s.rstN = true → s.fsm = .start →
    decode s.cmd = some (.keygen rd rs1) → s.params.Legal → s.A = 38 →
    s.entropy = 917519#32 :: 524309#32 :: rest →
    ∃ u t : State, engineSteps 5 s = .next u ∧ u.fsm = .kgInv ∧ u.kp = 917519 ∧ u.kq = 524309 ∧
      engineSteps 6 s = .next t ∧ t = { u with phase := .p, fsm := .gpDraw } ∧
      t.gbits = 20 ∧ t.entropy = rest ∧ HostVisibleKept s t) ∧
  (∀ p : Params, p.Legal → ∃ t : State,
    deliverAll ((HostOp.ldx 0 38).events p ++ (HostOp.cmd (.keygen 4 0)).events p ++
      [.entropy 917519#32, .entropy 524309#32] ++ List.replicate 6 .engine) (State.resetWith p) = .next t ∧
    t.fsm = .gpDraw ∧ t.phase = .p ∧ t.gbits = 20 ∧ t.kp = 917519 ∧ t.kq = 524309 ∧ t.busy = true ∧ t.err = 0)
end

