-- ==== Sys2Proof/Laws/Operands.lean ====
section
/-! SUPPORT. Reading and writing operand registers and their limbs, and the aperture map. -/

namespace Sys2Proof.Machine

/-! ## Registers -/

@[simp] theorem RegFile.get_set_same (x : RegFile) (i : Reg) (v : Nat) : (x.set i v).get i = v := by
  fin_cases i <;> rfl

theorem RegFile.get_set_ne (x : RegFile) {i j : Reg} (v : Nat) (h : j ≠ i) : (x.set i v).get j = x.get j := by
  fin_cases i <;> fin_cases j <;> first | rfl | exact absurd rfl h

theorem RegFile.get_set (x : RegFile) (i j : Reg) (v : Nat) :
    (x.set i v).get j = if j = i then v else x.get j := by
  split
  · next h => subst h; simp
  · next h => exact x.get_set_ne v h

/-- Two register files with the same registers are the same. -/
theorem RegFile.ext_get {x y : RegFile} (h : ∀ i, x.get i = y.get i) : x = y := by
  cases x; cases y
  simpa [RegFile.get] using And.intro (h 0) ⟨h 1, h 2, h 3, h 4, h 5, h 6, h 7⟩

@[simp] theorem RegFile.set_set (x : RegFile) (i : Reg) (v w : Nat) : (x.set i v).set i w = x.set i w := by
  fin_cases i <;> rfl

@[simp] theorem RegFile.get_zero (i : Reg) : RegFile.zero.get i = 0 := by fin_cases i <;> rfl

/-- A list of writes leaves every register it does not name. -/
theorem RegFile.get_foldl_set (ws : List (Reg × Nat)) (x : RegFile) (i : Reg) (h : i ∉ ws.map Prod.fst) :
    (ws.foldl (fun x w => x.set w.1 w.2) x).get i = x.get i := by
  induction ws generalizing x with
  | nil => rfl
  | cons w ws ih =>
    simp only [List.map_cons, List.mem_cons, not_or] at h
    rw [List.foldl_cons, ih _ h.2, RegFile.get_set_ne _ _ h.1]

/-! ## Limbs -/

theorem limb_eq (v j : Nat) : limb v j = v / 2 ^ (32 * j) % 2 ^ 32 := by
  simp [limb, slice, show 32 * j + 31 + 1 - 32 * j = 32 by omega]

theorem limb_lt (v j : Nat) : limb v j < 2 ^ 32 := by
  rw [limb_eq]; exact Nat.mod_lt _ (by norm_num)

/-- The three parts of a value around limb `j`. -/
theorem limb_split (v j : Nat) :
    v = v / 2 ^ (32 * j + 32) * 2 ^ (32 * j + 32) + limb v j * 2 ^ (32 * j) + v % 2 ^ (32 * j) := by
  rw [limb_eq, Nat.pow_add, ← Nat.div_div_eq_div_mul]
  have h := Nat.div_add_mod v (2 ^ (32 * j))
  have h2 := Nat.div_add_mod (v / 2 ^ (32 * j)) (2 ^ 32)
  calc v = 2 ^ (32 * j) * (v / 2 ^ (32 * j)) + v % 2 ^ (32 * j) := h.symm
    _ = 2 ^ (32 * j) * (2 ^ 32 * (v / 2 ^ (32 * j) / 2 ^ 32) + v / 2 ^ (32 * j) % 2 ^ 32) + v % 2 ^ (32 * j) := by
      rw [h2]
    _ = _ := by ring

/-- The limbs above, at and below `j` of a value put together from parts. -/
theorem limb_parts {hi w lo j : Nat} (hw : w < 2 ^ 32) (hlo : lo < 2 ^ (32 * j)) (k : Nat) :
    limb (hi * 2 ^ (32 * j + 32) + w * 2 ^ (32 * j) + lo) k =
      if k = j then w else if k < j then limb lo k else limb (hi * 2 ^ (32 * j + 32)) k := by
  have e : hi * 2 ^ (32 * j + 32) + w * 2 ^ (32 * j) + lo = (hi * 2 ^ 32 + w) * 2 ^ (32 * j) + lo := by
    rw [Nat.pow_add]; ring
  rcases lt_trichotomy k j with h | h | h
  · simp only [show k ≠ j by omega, h, if_true, if_false]
    obtain ⟨d, rfl⟩ : ∃ d, j = k + 1 + d := ⟨j - k - 1, by omega⟩
    rw [e, limb_eq, limb_eq,
      show (hi * 2 ^ 32 + w) * 2 ^ (32 * (k + 1 + d)) = 2 ^ (32 * k) * (2 ^ 32 * ((hi * 2 ^ 32 + w) * 2 ^ (32 * d))) by
        rw [show 32 * (k + 1 + d) = 32 * k + 32 + 32 * d by ring, Nat.pow_add, Nat.pow_add]; ring,
      Nat.mul_add_div (by positivity), Nat.mul_add_mod]
  · subst h
    simp only [if_true]
    rw [e, limb_eq, Nat.mul_comm _ (2 ^ (32 * k)), Nat.mul_add_div (by positivity), Nat.div_eq_of_lt hlo, Nat.add_zero,
      Nat.mul_comm hi, Nat.mul_add_mod, Nat.mod_eq_of_lt hw]
  · simp only [show k ≠ j by omega, show ¬ k < j by omega, if_false]
    obtain ⟨d, rfl⟩ : ∃ d, k = j + 1 + d := ⟨k - j - 1, by omega⟩
    have small : w * 2 ^ (32 * j) + lo < 2 ^ (32 * j + 32) := by
      rw [Nat.pow_add, Nat.mul_comm (2 ^ (32 * j))]
      calc w * 2 ^ (32 * j) + lo < w * 2 ^ (32 * j) + 2 ^ (32 * j) := by omega
        _ = (w + 1) * 2 ^ (32 * j) := by ring
        _ ≤ 2 ^ 32 * 2 ^ (32 * j) := Nat.mul_le_mul_right _ hw
    rw [limb_eq, limb_eq, show 32 * (j + 1 + d) = (32 * j + 32) + 32 * d by ring, Nat.pow_add _ (32 * j + 32),
      ← Nat.div_div_eq_div_mul, ← Nat.div_div_eq_div_mul, Nat.add_assoc, Nat.mul_comm hi,
      Nat.mul_add_div (by positivity), Nat.div_eq_of_lt small, Nat.add_zero, Nat.mul_div_cancel_left _ (by positivity)]

/-- Writing a limb sets that limb and leaves every other (20_memory.md R66). -/
theorem limb_setLimb (v j k : Nat) (w : Word) :
    limb (setLimb v j w) k = if k = j then w.toNat else limb v k := by
  have hlo : v % 2 ^ (32 * j) < 2 ^ (32 * j) := Nat.mod_lt _ (by positivity)
  have h1 := limb_parts (hi := v / 2 ^ (32 * j + 32)) w.isLt hlo k
  have h2 := limb_parts (hi := v / 2 ^ (32 * j + 32)) (limb_lt v j) hlo k
  rw [← limb_split] at h2
  unfold setLimb
  rw [h1, h2]
  split <;> rfl

/-- Writing a limb that lies below `2^n` keeps the value below `2^n`. -/
theorem setLimb_lt {v j n : Nat} (w : Word) (hv : v < 2 ^ n) (hj : 32 * j + 32 ≤ n) : setLimb v j w < 2 ^ n := by
  obtain ⟨d, rfl⟩ : ∃ d, n = 32 * j + 32 + d := ⟨n - (32 * j + 32), by omega⟩
  have hhi : v / 2 ^ (32 * j + 32) < 2 ^ d := by
    rw [Nat.div_lt_iff_lt_mul (by positivity), ← Nat.pow_add, Nat.add_comm d]; exact hv
  have hlo : v % 2 ^ (32 * j) < 2 ^ (32 * j) := Nat.mod_lt _ (by positivity)
  have small : w.toNat * 2 ^ (32 * j) + v % 2 ^ (32 * j) < 2 ^ (32 * j + 32) := by
    rw [Nat.pow_add, Nat.mul_comm (2 ^ (32 * j))]
    calc w.toNat * 2 ^ (32 * j) + v % 2 ^ (32 * j) < w.toNat * 2 ^ (32 * j) + 2 ^ (32 * j) := by omega
      _ = (w.toNat + 1) * 2 ^ (32 * j) := by ring
      _ ≤ 2 ^ 32 * 2 ^ (32 * j) := Nat.mul_le_mul_right _ w.isLt
  unfold setLimb
  calc v / 2 ^ (32 * j + 32) * 2 ^ (32 * j + 32) + w.toNat * 2 ^ (32 * j) + v % 2 ^ (32 * j)
      < v / 2 ^ (32 * j + 32) * 2 ^ (32 * j + 32) + 2 ^ (32 * j + 32) := by omega
    _ = (v / 2 ^ (32 * j + 32) + 1) * 2 ^ (32 * j + 32) := by ring
    _ ≤ 2 ^ d * 2 ^ (32 * j + 32) := Nat.mul_le_mul_right _ hhi
    _ = 2 ^ (32 * j + 32 + d) := by rw [Nat.pow_add _ (32 * j + 32)]; ring

/-! ## The aperture map -/

theorem limbOffset_toNat {i : Reg} {j : Nat} (h : j < 256) :
    (limbOffset i j).toNat = 0x400 + 0x400 * i.val + 4 * j := by
  have := i.isLt
  simp only [limbOffset, BitVec.toNat_ofNat]
  omega

/-- The offset of a limb names that limb (20_memory.md R62). -/
@[simp] theorem target_limbOffset {i : Reg} {j : Nat} (h : j < 256) : target (limbOffset i j) = .limb i j := by
  have hi := i.isLt
  simp only [target, limbOffset_toNat h]
  rw [if_neg (by omega), if_neg (by omega), if_neg (by omega), if_neg (by omega), if_neg (by omega),
    if_pos (by omega)]
  congr 1
  · apply Fin.ext
    simp only [Fin.ofNat]
    omega
  · omega

@[simp] theorem aligned_limbOffset {i : Reg} {j : Nat} (h : j < 256) : aligned (limbOffset i j) = true := by
  simp only [aligned, limbOffset_toNat h, beq_iff_eq]
  omega

@[simp] theorem target_ctrl : target 0x008 = .ctrl := by decide
@[simp] theorem target_status : target 0x00C = .status := by decide
@[simp] theorem target_cmd : target 0x010 = .cmd := by decide

/-- What each offset names (20_memory.md R61). -/
theorem target_cases (off : Offset) :
    (off.toNat = 0x000 ∧ target off = .id) ∨ (off.toNat = 0x004 ∧ target off = .config) ∨
    (off.toNat = 0x008 ∧ target off = .ctrl) ∨ (off.toNat = 0x00C ∧ target off = .status) ∨
    (off.toNat = 0x010 ∧ target off = .cmd) ∨
    (0x400 ≤ off.toNat ∧ off.toNat < 0x2400 ∧ ∃ i j, target off = .limb i j ∧
      off.toNat / 4 = (0x400 + 0x400 * i.val + 4 * j) / 4 ∧ j < 256) ∨
    target off = .unmapped := by
  unfold target
  simp only
  split; · next h => exact .inl ⟨h, rfl⟩
  split; · next h => exact .inr (.inl ⟨h, rfl⟩)
  split; · next h => exact .inr (.inr (.inl ⟨h, rfl⟩))
  split; · next h => exact .inr (.inr (.inr (.inl ⟨h, rfl⟩)))
  split; · next h => exact .inr (.inr (.inr (.inr (.inl ⟨h, rfl⟩))))
  split
  · next h =>
    refine .inr (.inr (.inr (.inr (.inr (.inl ⟨h.1, h.2, _, _, rfl, ?_, ?_⟩)))))
    · simp only [Fin.ofNat]
      omega
    · omega
  · exact .inr (.inr (.inr (.inr (.inr (.inr rfl)))))

end Sys2Proof.Machine
end

