-- ==== Sys2Proof/Laws/State.lean ====
section
/-! SUPPORT. One lemma per field per update of the state, so that no proof unfolds a record update. -/

namespace Sys2Proof.Machine

/-! ### State.writeRegs -/

@[simp] theorem State.writeRegs_X (s : State) (ws : List (Reg × Nat)) : (s.writeRegs ws).X = ws.foldl (fun x w => x.set w.1 w.2) s.X := rfl
@[simp] theorem State.writeRegs_ie (s : State) (ws : List (Reg × Nat)) : (s.writeRegs ws).ie = s.ie := rfl
@[simp] theorem State.writeRegs_busy (s : State) (ws : List (Reg × Nat)) : (s.writeRegs ws).busy = s.busy := rfl
@[simp] theorem State.writeRegs_done (s : State) (ws : List (Reg × Nat)) : (s.writeRegs ws).done = s.done := rfl
@[simp] theorem State.writeRegs_prime (s : State) (ws : List (Reg × Nat)) : (s.writeRegs ws).prime = s.prime := rfl
@[simp] theorem State.writeRegs_coll (s : State) (ws : List (Reg × Nat)) : (s.writeRegs ws).coll = s.coll := rfl
@[simp] theorem State.writeRegs_err (s : State) (ws : List (Reg × Nat)) : (s.writeRegs ws).err = s.err := rfl
@[simp] theorem State.writeRegs_fsm (s : State) (ws : List (Reg × Nat)) : (s.writeRegs ws).fsm = s.fsm := rfl
@[simp] theorem State.writeRegs_cmd (s : State) (ws : List (Reg × Nat)) : (s.writeRegs ws).cmd = s.cmd := rfl
@[simp] theorem State.writeRegs_A (s : State) (ws : List (Reg × Nat)) : (s.writeRegs ws).A = s.A := rfl
@[simp] theorem State.writeRegs_B (s : State) (ws : List (Reg × Nat)) : (s.writeRegs ws).B = s.B := rfl
@[simp] theorem State.writeRegs_C (s : State) (ws : List (Reg × Nat)) : (s.writeRegs ws).C = s.C := rfl
@[simp] theorem State.writeRegs_gbits (s : State) (ws : List (Reg × Nat)) : (s.writeRegs ws).gbits = s.gbits := rfl
@[simp] theorem State.writeRegs_cand (s : State) (ws : List (Reg × Nat)) : (s.writeRegs ws).cand = s.cand := rfl
@[simp] theorem State.writeRegs_phase (s : State) (ws : List (Reg × Nat)) : (s.writeRegs ws).phase = s.phase := rfl
@[simp] theorem State.writeRegs_kt (s : State) (ws : List (Reg × Nat)) : (s.writeRegs ws).kt = s.kt := rfl
@[simp] theorem State.writeRegs_kp (s : State) (ws : List (Reg × Nat)) : (s.writeRegs ws).kp = s.kp := rfl
@[simp] theorem State.writeRegs_kq (s : State) (ws : List (Reg × Nat)) : (s.writeRegs ws).kq = s.kq := rfl
@[simp] theorem State.writeRegs_params (s : State) (ws : List (Reg × Nat)) : (s.writeRegs ws).params = s.params := rfl
@[simp] theorem State.writeRegs_rstN (s : State) (ws : List (Reg × Nat)) : (s.writeRegs ws).rstN = s.rstN := rfl
@[simp] theorem State.writeRegs_inbox (s : State) (ws : List (Reg × Nat)) : (s.writeRegs ws).inbox = s.inbox := rfl
@[simp] theorem State.writeRegs_entropy (s : State) (ws : List (Reg × Nat)) : (s.writeRegs ws).entropy = s.entropy := rfl
@[simp] theorem State.writeRegs_bases (s : State) (ws : List (Reg × Nat)) : (s.writeRegs ws).bases = s.bases := rfl
@[simp] theorem State.writeRegs_responses (s : State) (ws : List (Reg × Nat)) : (s.writeRegs ws).responses = s.responses := rfl

/-! ### State.zeroise -/

@[simp] theorem State.zeroise_X (s : State) : s.zeroise.X = s.X := rfl
@[simp] theorem State.zeroise_ie (s : State) : s.zeroise.ie = s.ie := rfl
@[simp] theorem State.zeroise_busy (s : State) : s.zeroise.busy = s.busy := rfl
@[simp] theorem State.zeroise_done (s : State) : s.zeroise.done = s.done := rfl
@[simp] theorem State.zeroise_prime (s : State) : s.zeroise.prime = s.prime := rfl
@[simp] theorem State.zeroise_coll (s : State) : s.zeroise.coll = s.coll := rfl
@[simp] theorem State.zeroise_err (s : State) : s.zeroise.err = s.err := rfl
@[simp] theorem State.zeroise_fsm (s : State) : s.zeroise.fsm = s.fsm := rfl
@[simp] theorem State.zeroise_cmd (s : State) : s.zeroise.cmd = s.cmd := rfl
@[simp] theorem State.zeroise_A (s : State) : s.zeroise.A = s.A := rfl
@[simp] theorem State.zeroise_B (s : State) : s.zeroise.B = s.B := rfl
@[simp] theorem State.zeroise_C (s : State) : s.zeroise.C = s.C := rfl
@[simp] theorem State.zeroise_gbits (s : State) : s.zeroise.gbits = 0 := rfl
@[simp] theorem State.zeroise_cand (s : State) : s.zeroise.cand = 0 := rfl
@[simp] theorem State.zeroise_phase (s : State) : s.zeroise.phase = .p := rfl
@[simp] theorem State.zeroise_kt (s : State) : s.zeroise.kt = 0 := rfl
@[simp] theorem State.zeroise_kp (s : State) : s.zeroise.kp = 0 := rfl
@[simp] theorem State.zeroise_kq (s : State) : s.zeroise.kq = 0 := rfl
@[simp] theorem State.zeroise_params (s : State) : s.zeroise.params = s.params := rfl
@[simp] theorem State.zeroise_rstN (s : State) : s.zeroise.rstN = s.rstN := rfl
@[simp] theorem State.zeroise_inbox (s : State) : s.zeroise.inbox = s.inbox := rfl
@[simp] theorem State.zeroise_entropy (s : State) : s.zeroise.entropy = s.entropy := rfl
@[simp] theorem State.zeroise_bases (s : State) : s.zeroise.bases = s.bases := rfl
@[simp] theorem State.zeroise_responses (s : State) : s.zeroise.responses = s.responses := rfl

/-! ### State.finish -/

@[simp] theorem State.finish_X (s : State) (c : ErrCode) : (s.finish c).X = s.X := rfl
@[simp] theorem State.finish_ie (s : State) (c : ErrCode) : (s.finish c).ie = s.ie := rfl
@[simp] theorem State.finish_busy (s : State) (c : ErrCode) : (s.finish c).busy = false := rfl
@[simp] theorem State.finish_done (s : State) (c : ErrCode) : (s.finish c).done = true := rfl
@[simp] theorem State.finish_prime (s : State) (c : ErrCode) : (s.finish c).prime = s.prime := rfl
@[simp] theorem State.finish_coll (s : State) (c : ErrCode) : (s.finish c).coll = s.coll := rfl
@[simp] theorem State.finish_err (s : State) (c : ErrCode) : (s.finish c).err = c.code := rfl
@[simp] theorem State.finish_fsm (s : State) (c : ErrCode) : (s.finish c).fsm = .idle := rfl
@[simp] theorem State.finish_cmd (s : State) (c : ErrCode) : (s.finish c).cmd = s.cmd := rfl
@[simp] theorem State.finish_A (s : State) (c : ErrCode) : (s.finish c).A = s.A := rfl
@[simp] theorem State.finish_B (s : State) (c : ErrCode) : (s.finish c).B = s.B := rfl
@[simp] theorem State.finish_C (s : State) (c : ErrCode) : (s.finish c).C = s.C := rfl
@[simp] theorem State.finish_gbits (s : State) (c : ErrCode) : (s.finish c).gbits = 0 := rfl
@[simp] theorem State.finish_cand (s : State) (c : ErrCode) : (s.finish c).cand = 0 := rfl
@[simp] theorem State.finish_phase (s : State) (c : ErrCode) : (s.finish c).phase = .p := rfl
@[simp] theorem State.finish_kt (s : State) (c : ErrCode) : (s.finish c).kt = 0 := rfl
@[simp] theorem State.finish_kp (s : State) (c : ErrCode) : (s.finish c).kp = 0 := rfl
@[simp] theorem State.finish_kq (s : State) (c : ErrCode) : (s.finish c).kq = 0 := rfl
@[simp] theorem State.finish_params (s : State) (c : ErrCode) : (s.finish c).params = s.params := rfl
@[simp] theorem State.finish_rstN (s : State) (c : ErrCode) : (s.finish c).rstN = s.rstN := rfl
@[simp] theorem State.finish_inbox (s : State) (c : ErrCode) : (s.finish c).inbox = s.inbox := rfl
@[simp] theorem State.finish_entropy (s : State) (c : ErrCode) : (s.finish c).entropy = s.entropy := rfl
@[simp] theorem State.finish_bases (s : State) (c : ErrCode) : (s.finish c).bases = s.bases := rfl
@[simp] theorem State.finish_responses (s : State) (c : ErrCode) : (s.finish c).responses = s.responses := rfl

/-! ### State.clearDone -/

@[simp] theorem State.clearDone_X (s : State) : s.clearDone.X = s.X := rfl
@[simp] theorem State.clearDone_ie (s : State) : s.clearDone.ie = s.ie := rfl
@[simp] theorem State.clearDone_busy (s : State) : s.clearDone.busy = s.busy := rfl
@[simp] theorem State.clearDone_done (s : State) : s.clearDone.done = false := rfl
@[simp] theorem State.clearDone_prime (s : State) : s.clearDone.prime = s.prime := rfl
@[simp] theorem State.clearDone_coll (s : State) : s.clearDone.coll = s.coll := rfl
@[simp] theorem State.clearDone_err (s : State) : s.clearDone.err = s.err := rfl
@[simp] theorem State.clearDone_fsm (s : State) : s.clearDone.fsm = s.fsm := rfl
@[simp] theorem State.clearDone_cmd (s : State) : s.clearDone.cmd = s.cmd := rfl
@[simp] theorem State.clearDone_A (s : State) : s.clearDone.A = s.A := rfl
@[simp] theorem State.clearDone_B (s : State) : s.clearDone.B = s.B := rfl
@[simp] theorem State.clearDone_C (s : State) : s.clearDone.C = s.C := rfl
@[simp] theorem State.clearDone_gbits (s : State) : s.clearDone.gbits = s.gbits := rfl
@[simp] theorem State.clearDone_cand (s : State) : s.clearDone.cand = s.cand := rfl
@[simp] theorem State.clearDone_phase (s : State) : s.clearDone.phase = s.phase := rfl
@[simp] theorem State.clearDone_kt (s : State) : s.clearDone.kt = s.kt := rfl
@[simp] theorem State.clearDone_kp (s : State) : s.clearDone.kp = s.kp := rfl
@[simp] theorem State.clearDone_kq (s : State) : s.clearDone.kq = s.kq := rfl
@[simp] theorem State.clearDone_params (s : State) : s.clearDone.params = s.params := rfl
@[simp] theorem State.clearDone_rstN (s : State) : s.clearDone.rstN = s.rstN := rfl
@[simp] theorem State.clearDone_inbox (s : State) : s.clearDone.inbox = s.inbox := rfl
@[simp] theorem State.clearDone_entropy (s : State) : s.clearDone.entropy = s.entropy := rfl
@[simp] theorem State.clearDone_bases (s : State) : s.clearDone.bases = s.bases := rfl
@[simp] theorem State.clearDone_responses (s : State) : s.clearDone.responses = s.responses := rfl

/-! ### State.clearColl -/

@[simp] theorem State.clearColl_X (s : State) : s.clearColl.X = s.X := rfl
@[simp] theorem State.clearColl_ie (s : State) : s.clearColl.ie = s.ie := rfl
@[simp] theorem State.clearColl_busy (s : State) : s.clearColl.busy = s.busy := rfl
@[simp] theorem State.clearColl_done (s : State) : s.clearColl.done = s.done := rfl
@[simp] theorem State.clearColl_prime (s : State) : s.clearColl.prime = s.prime := rfl
@[simp] theorem State.clearColl_coll (s : State) : s.clearColl.coll = false := rfl
@[simp] theorem State.clearColl_err (s : State) : s.clearColl.err = s.err := rfl
@[simp] theorem State.clearColl_fsm (s : State) : s.clearColl.fsm = s.fsm := rfl
@[simp] theorem State.clearColl_cmd (s : State) : s.clearColl.cmd = s.cmd := rfl
@[simp] theorem State.clearColl_A (s : State) : s.clearColl.A = s.A := rfl
@[simp] theorem State.clearColl_B (s : State) : s.clearColl.B = s.B := rfl
@[simp] theorem State.clearColl_C (s : State) : s.clearColl.C = s.C := rfl
@[simp] theorem State.clearColl_gbits (s : State) : s.clearColl.gbits = s.gbits := rfl
@[simp] theorem State.clearColl_cand (s : State) : s.clearColl.cand = s.cand := rfl
@[simp] theorem State.clearColl_phase (s : State) : s.clearColl.phase = s.phase := rfl
@[simp] theorem State.clearColl_kt (s : State) : s.clearColl.kt = s.kt := rfl
@[simp] theorem State.clearColl_kp (s : State) : s.clearColl.kp = s.kp := rfl
@[simp] theorem State.clearColl_kq (s : State) : s.clearColl.kq = s.kq := rfl
@[simp] theorem State.clearColl_params (s : State) : s.clearColl.params = s.params := rfl
@[simp] theorem State.clearColl_rstN (s : State) : s.clearColl.rstN = s.rstN := rfl
@[simp] theorem State.clearColl_inbox (s : State) : s.clearColl.inbox = s.inbox := rfl
@[simp] theorem State.clearColl_entropy (s : State) : s.clearColl.entropy = s.entropy := rfl
@[simp] theorem State.clearColl_bases (s : State) : s.clearColl.bases = s.bases := rfl
@[simp] theorem State.clearColl_responses (s : State) : s.clearColl.responses = s.responses := rfl

/-! ### State.collide -/

@[simp] theorem State.collide_X (s : State) : s.collide.X = s.X := rfl
@[simp] theorem State.collide_ie (s : State) : s.collide.ie = s.ie := rfl
@[simp] theorem State.collide_busy (s : State) : s.collide.busy = s.busy := rfl
@[simp] theorem State.collide_done (s : State) : s.collide.done = s.done := rfl
@[simp] theorem State.collide_prime (s : State) : s.collide.prime = s.prime := rfl
@[simp] theorem State.collide_coll (s : State) : s.collide.coll = true := rfl
@[simp] theorem State.collide_err (s : State) : s.collide.err = s.err := rfl
@[simp] theorem State.collide_fsm (s : State) : s.collide.fsm = s.fsm := rfl
@[simp] theorem State.collide_cmd (s : State) : s.collide.cmd = s.cmd := rfl
@[simp] theorem State.collide_A (s : State) : s.collide.A = s.A := rfl
@[simp] theorem State.collide_B (s : State) : s.collide.B = s.B := rfl
@[simp] theorem State.collide_C (s : State) : s.collide.C = s.C := rfl
@[simp] theorem State.collide_gbits (s : State) : s.collide.gbits = s.gbits := rfl
@[simp] theorem State.collide_cand (s : State) : s.collide.cand = s.cand := rfl
@[simp] theorem State.collide_phase (s : State) : s.collide.phase = s.phase := rfl
@[simp] theorem State.collide_kt (s : State) : s.collide.kt = s.kt := rfl
@[simp] theorem State.collide_kp (s : State) : s.collide.kp = s.kp := rfl
@[simp] theorem State.collide_kq (s : State) : s.collide.kq = s.kq := rfl
@[simp] theorem State.collide_params (s : State) : s.collide.params = s.params := rfl
@[simp] theorem State.collide_rstN (s : State) : s.collide.rstN = s.rstN := rfl
@[simp] theorem State.collide_inbox (s : State) : s.collide.inbox = s.inbox := rfl
@[simp] theorem State.collide_entropy (s : State) : s.collide.entropy = s.entropy := rfl
@[simp] theorem State.collide_bases (s : State) : s.collide.bases = s.bases := rfl
@[simp] theorem State.collide_responses (s : State) : s.collide.responses = s.responses := rfl

/-! ### State.setPrime -/

@[simp] theorem State.setPrime_X (s : State) (v : Bool) : (s.setPrime v).X = s.X := rfl
@[simp] theorem State.setPrime_ie (s : State) (v : Bool) : (s.setPrime v).ie = s.ie := rfl
@[simp] theorem State.setPrime_busy (s : State) (v : Bool) : (s.setPrime v).busy = s.busy := rfl
@[simp] theorem State.setPrime_done (s : State) (v : Bool) : (s.setPrime v).done = s.done := rfl
@[simp] theorem State.setPrime_prime (s : State) (v : Bool) : (s.setPrime v).prime = v := rfl
@[simp] theorem State.setPrime_coll (s : State) (v : Bool) : (s.setPrime v).coll = s.coll := rfl
@[simp] theorem State.setPrime_err (s : State) (v : Bool) : (s.setPrime v).err = s.err := rfl
@[simp] theorem State.setPrime_fsm (s : State) (v : Bool) : (s.setPrime v).fsm = s.fsm := rfl
@[simp] theorem State.setPrime_cmd (s : State) (v : Bool) : (s.setPrime v).cmd = s.cmd := rfl
@[simp] theorem State.setPrime_A (s : State) (v : Bool) : (s.setPrime v).A = s.A := rfl
@[simp] theorem State.setPrime_B (s : State) (v : Bool) : (s.setPrime v).B = s.B := rfl
@[simp] theorem State.setPrime_C (s : State) (v : Bool) : (s.setPrime v).C = s.C := rfl
@[simp] theorem State.setPrime_gbits (s : State) (v : Bool) : (s.setPrime v).gbits = s.gbits := rfl
@[simp] theorem State.setPrime_cand (s : State) (v : Bool) : (s.setPrime v).cand = s.cand := rfl
@[simp] theorem State.setPrime_phase (s : State) (v : Bool) : (s.setPrime v).phase = s.phase := rfl
@[simp] theorem State.setPrime_kt (s : State) (v : Bool) : (s.setPrime v).kt = s.kt := rfl
@[simp] theorem State.setPrime_kp (s : State) (v : Bool) : (s.setPrime v).kp = s.kp := rfl
@[simp] theorem State.setPrime_kq (s : State) (v : Bool) : (s.setPrime v).kq = s.kq := rfl
@[simp] theorem State.setPrime_params (s : State) (v : Bool) : (s.setPrime v).params = s.params := rfl
@[simp] theorem State.setPrime_rstN (s : State) (v : Bool) : (s.setPrime v).rstN = s.rstN := rfl
@[simp] theorem State.setPrime_inbox (s : State) (v : Bool) : (s.setPrime v).inbox = s.inbox := rfl
@[simp] theorem State.setPrime_entropy (s : State) (v : Bool) : (s.setPrime v).entropy = s.entropy := rfl
@[simp] theorem State.setPrime_bases (s : State) (v : Bool) : (s.setPrime v).bases = s.bases := rfl
@[simp] theorem State.setPrime_responses (s : State) (v : Bool) : (s.setPrime v).responses = s.responses := rfl

/-! ### State.setIe -/

@[simp] theorem State.setIe_X (s : State) (v : Bool) : (s.setIe v).X = s.X := rfl
@[simp] theorem State.setIe_ie (s : State) (v : Bool) : (s.setIe v).ie = v := rfl
@[simp] theorem State.setIe_busy (s : State) (v : Bool) : (s.setIe v).busy = s.busy := rfl
@[simp] theorem State.setIe_done (s : State) (v : Bool) : (s.setIe v).done = s.done := rfl
@[simp] theorem State.setIe_prime (s : State) (v : Bool) : (s.setIe v).prime = s.prime := rfl
@[simp] theorem State.setIe_coll (s : State) (v : Bool) : (s.setIe v).coll = s.coll := rfl
@[simp] theorem State.setIe_err (s : State) (v : Bool) : (s.setIe v).err = s.err := rfl
@[simp] theorem State.setIe_fsm (s : State) (v : Bool) : (s.setIe v).fsm = s.fsm := rfl
@[simp] theorem State.setIe_cmd (s : State) (v : Bool) : (s.setIe v).cmd = s.cmd := rfl
@[simp] theorem State.setIe_A (s : State) (v : Bool) : (s.setIe v).A = s.A := rfl
@[simp] theorem State.setIe_B (s : State) (v : Bool) : (s.setIe v).B = s.B := rfl
@[simp] theorem State.setIe_C (s : State) (v : Bool) : (s.setIe v).C = s.C := rfl
@[simp] theorem State.setIe_gbits (s : State) (v : Bool) : (s.setIe v).gbits = s.gbits := rfl
@[simp] theorem State.setIe_cand (s : State) (v : Bool) : (s.setIe v).cand = s.cand := rfl
@[simp] theorem State.setIe_phase (s : State) (v : Bool) : (s.setIe v).phase = s.phase := rfl
@[simp] theorem State.setIe_kt (s : State) (v : Bool) : (s.setIe v).kt = s.kt := rfl
@[simp] theorem State.setIe_kp (s : State) (v : Bool) : (s.setIe v).kp = s.kp := rfl
@[simp] theorem State.setIe_kq (s : State) (v : Bool) : (s.setIe v).kq = s.kq := rfl
@[simp] theorem State.setIe_params (s : State) (v : Bool) : (s.setIe v).params = s.params := rfl
@[simp] theorem State.setIe_rstN (s : State) (v : Bool) : (s.setIe v).rstN = s.rstN := rfl
@[simp] theorem State.setIe_inbox (s : State) (v : Bool) : (s.setIe v).inbox = s.inbox := rfl
@[simp] theorem State.setIe_entropy (s : State) (v : Bool) : (s.setIe v).entropy = s.entropy := rfl
@[simp] theorem State.setIe_bases (s : State) (v : Bool) : (s.setIe v).bases = s.bases := rfl
@[simp] theorem State.setIe_responses (s : State) (v : Bool) : (s.setIe v).responses = s.responses := rfl

/-! ### State.accept -/

@[simp] theorem State.accept_X (s : State) (w : Word) : (s.accept w).X = s.X := rfl
@[simp] theorem State.accept_ie (s : State) (w : Word) : (s.accept w).ie = s.ie := rfl
@[simp] theorem State.accept_busy (s : State) (w : Word) : (s.accept w).busy = true := rfl
@[simp] theorem State.accept_done (s : State) (w : Word) : (s.accept w).done = false := rfl
@[simp] theorem State.accept_prime (s : State) (w : Word) : (s.accept w).prime = s.prime := rfl
@[simp] theorem State.accept_coll (s : State) (w : Word) : (s.accept w).coll = s.coll := rfl
@[simp] theorem State.accept_err (s : State) (w : Word) : (s.accept w).err = ErrCode.ok.code := rfl
@[simp] theorem State.accept_fsm (s : State) (w : Word) : (s.accept w).fsm = .start := rfl
@[simp] theorem State.accept_cmd (s : State) (w : Word) : (s.accept w).cmd = w := rfl
@[simp] theorem State.accept_A (s : State) (w : Word) : (s.accept w).A = s.X.get (rs1Field w) := rfl
@[simp] theorem State.accept_B (s : State) (w : Word) : (s.accept w).B = s.X.get (rs2Field w) := rfl
@[simp] theorem State.accept_C (s : State) (w : Word) : (s.accept w).C = s.X.get (rs3Field w) := rfl
@[simp] theorem State.accept_gbits (s : State) (w : Word) : (s.accept w).gbits = s.gbits := rfl
@[simp] theorem State.accept_cand (s : State) (w : Word) : (s.accept w).cand = s.cand := rfl
@[simp] theorem State.accept_phase (s : State) (w : Word) : (s.accept w).phase = s.phase := rfl
@[simp] theorem State.accept_kt (s : State) (w : Word) : (s.accept w).kt = s.kt := rfl
@[simp] theorem State.accept_kp (s : State) (w : Word) : (s.accept w).kp = s.kp := rfl
@[simp] theorem State.accept_kq (s : State) (w : Word) : (s.accept w).kq = s.kq := rfl
@[simp] theorem State.accept_params (s : State) (w : Word) : (s.accept w).params = s.params := rfl
@[simp] theorem State.accept_rstN (s : State) (w : Word) : (s.accept w).rstN = s.rstN := rfl
@[simp] theorem State.accept_inbox (s : State) (w : Word) : (s.accept w).inbox = s.inbox := rfl
@[simp] theorem State.accept_entropy (s : State) (w : Word) : (s.accept w).entropy = s.entropy := rfl
@[simp] theorem State.accept_bases (s : State) (w : Word) : (s.accept w).bases = s.bases := rfl
@[simp] theorem State.accept_responses (s : State) (w : Word) : (s.accept w).responses = s.responses := rfl

/-! ### State.assertReset -/

@[simp] theorem State.assertReset_X (s : State) : s.assertReset.X = RegFile.zero := rfl
@[simp] theorem State.assertReset_ie (s : State) : s.assertReset.ie = false := rfl
@[simp] theorem State.assertReset_busy (s : State) : s.assertReset.busy = false := rfl
@[simp] theorem State.assertReset_done (s : State) : s.assertReset.done = false := rfl
@[simp] theorem State.assertReset_prime (s : State) : s.assertReset.prime = false := rfl
@[simp] theorem State.assertReset_coll (s : State) : s.assertReset.coll = false := rfl
@[simp] theorem State.assertReset_err (s : State) : s.assertReset.err = 0 := rfl
@[simp] theorem State.assertReset_fsm (s : State) : s.assertReset.fsm = .idle := rfl
@[simp] theorem State.assertReset_cmd (s : State) : s.assertReset.cmd = 0 := rfl
@[simp] theorem State.assertReset_A (s : State) : s.assertReset.A = 0 := rfl
@[simp] theorem State.assertReset_B (s : State) : s.assertReset.B = 0 := rfl
@[simp] theorem State.assertReset_C (s : State) : s.assertReset.C = 0 := rfl
@[simp] theorem State.assertReset_gbits (s : State) : s.assertReset.gbits = 0 := rfl
@[simp] theorem State.assertReset_cand (s : State) : s.assertReset.cand = 0 := rfl
@[simp] theorem State.assertReset_phase (s : State) : s.assertReset.phase = .p := rfl
@[simp] theorem State.assertReset_kt (s : State) : s.assertReset.kt = 0 := rfl
@[simp] theorem State.assertReset_kp (s : State) : s.assertReset.kp = 0 := rfl
@[simp] theorem State.assertReset_kq (s : State) : s.assertReset.kq = 0 := rfl
@[simp] theorem State.assertReset_params (s : State) : s.assertReset.params = s.params := rfl
@[simp] theorem State.assertReset_rstN (s : State) : s.assertReset.rstN = false := rfl
@[simp] theorem State.assertReset_inbox (s : State) : s.assertReset.inbox = s.inbox := rfl
@[simp] theorem State.assertReset_entropy (s : State) : s.assertReset.entropy = s.entropy := rfl
@[simp] theorem State.assertReset_bases (s : State) : s.assertReset.bases = s.bases := rfl
@[simp] theorem State.assertReset_responses (s : State) : s.assertReset.responses = s.responses := rfl

/-! ### State.releaseReset -/

@[simp] theorem State.releaseReset_X (s : State) : s.releaseReset.X = s.X := rfl
@[simp] theorem State.releaseReset_ie (s : State) : s.releaseReset.ie = s.ie := rfl
@[simp] theorem State.releaseReset_busy (s : State) : s.releaseReset.busy = s.busy := rfl
@[simp] theorem State.releaseReset_done (s : State) : s.releaseReset.done = s.done := rfl
@[simp] theorem State.releaseReset_prime (s : State) : s.releaseReset.prime = s.prime := rfl
@[simp] theorem State.releaseReset_coll (s : State) : s.releaseReset.coll = s.coll := rfl
@[simp] theorem State.releaseReset_err (s : State) : s.releaseReset.err = s.err := rfl
@[simp] theorem State.releaseReset_fsm (s : State) : s.releaseReset.fsm = s.fsm := rfl
@[simp] theorem State.releaseReset_cmd (s : State) : s.releaseReset.cmd = s.cmd := rfl
@[simp] theorem State.releaseReset_A (s : State) : s.releaseReset.A = s.A := rfl
@[simp] theorem State.releaseReset_B (s : State) : s.releaseReset.B = s.B := rfl
@[simp] theorem State.releaseReset_C (s : State) : s.releaseReset.C = s.C := rfl
@[simp] theorem State.releaseReset_gbits (s : State) : s.releaseReset.gbits = s.gbits := rfl
@[simp] theorem State.releaseReset_cand (s : State) : s.releaseReset.cand = s.cand := rfl
@[simp] theorem State.releaseReset_phase (s : State) : s.releaseReset.phase = s.phase := rfl
@[simp] theorem State.releaseReset_kt (s : State) : s.releaseReset.kt = s.kt := rfl
@[simp] theorem State.releaseReset_kp (s : State) : s.releaseReset.kp = s.kp := rfl
@[simp] theorem State.releaseReset_kq (s : State) : s.releaseReset.kq = s.kq := rfl
@[simp] theorem State.releaseReset_params (s : State) : s.releaseReset.params = s.params := rfl
@[simp] theorem State.releaseReset_rstN (s : State) : s.releaseReset.rstN = true := rfl
@[simp] theorem State.releaseReset_inbox (s : State) : s.releaseReset.inbox = s.inbox := rfl
@[simp] theorem State.releaseReset_entropy (s : State) : s.releaseReset.entropy = s.entropy := rfl
@[simp] theorem State.releaseReset_bases (s : State) : s.releaseReset.bases = s.bases := rfl
@[simp] theorem State.releaseReset_responses (s : State) : s.releaseReset.responses = s.responses := rfl

/-! ### State.offerEntropy -/

@[simp] theorem State.offerEntropy_X (s : State) (w : Word) : (s.offerEntropy w).X = s.X := rfl
@[simp] theorem State.offerEntropy_ie (s : State) (w : Word) : (s.offerEntropy w).ie = s.ie := rfl
@[simp] theorem State.offerEntropy_busy (s : State) (w : Word) : (s.offerEntropy w).busy = s.busy := rfl
@[simp] theorem State.offerEntropy_done (s : State) (w : Word) : (s.offerEntropy w).done = s.done := rfl
@[simp] theorem State.offerEntropy_prime (s : State) (w : Word) : (s.offerEntropy w).prime = s.prime := rfl
@[simp] theorem State.offerEntropy_coll (s : State) (w : Word) : (s.offerEntropy w).coll = s.coll := rfl
@[simp] theorem State.offerEntropy_err (s : State) (w : Word) : (s.offerEntropy w).err = s.err := rfl
@[simp] theorem State.offerEntropy_fsm (s : State) (w : Word) : (s.offerEntropy w).fsm = s.fsm := rfl
@[simp] theorem State.offerEntropy_cmd (s : State) (w : Word) : (s.offerEntropy w).cmd = s.cmd := rfl
@[simp] theorem State.offerEntropy_A (s : State) (w : Word) : (s.offerEntropy w).A = s.A := rfl
@[simp] theorem State.offerEntropy_B (s : State) (w : Word) : (s.offerEntropy w).B = s.B := rfl
@[simp] theorem State.offerEntropy_C (s : State) (w : Word) : (s.offerEntropy w).C = s.C := rfl
@[simp] theorem State.offerEntropy_gbits (s : State) (w : Word) : (s.offerEntropy w).gbits = s.gbits := rfl
@[simp] theorem State.offerEntropy_cand (s : State) (w : Word) : (s.offerEntropy w).cand = s.cand := rfl
@[simp] theorem State.offerEntropy_phase (s : State) (w : Word) : (s.offerEntropy w).phase = s.phase := rfl
@[simp] theorem State.offerEntropy_kt (s : State) (w : Word) : (s.offerEntropy w).kt = s.kt := rfl
@[simp] theorem State.offerEntropy_kp (s : State) (w : Word) : (s.offerEntropy w).kp = s.kp := rfl
@[simp] theorem State.offerEntropy_kq (s : State) (w : Word) : (s.offerEntropy w).kq = s.kq := rfl
@[simp] theorem State.offerEntropy_params (s : State) (w : Word) : (s.offerEntropy w).params = s.params := rfl
@[simp] theorem State.offerEntropy_rstN (s : State) (w : Word) : (s.offerEntropy w).rstN = s.rstN := rfl
@[simp] theorem State.offerEntropy_inbox (s : State) (w : Word) : (s.offerEntropy w).inbox = s.inbox := rfl
@[simp] theorem State.offerEntropy_entropy (s : State) (w : Word) : (s.offerEntropy w).entropy = s.entropy ++ [w] := rfl
@[simp] theorem State.offerEntropy_bases (s : State) (w : Word) : (s.offerEntropy w).bases = s.bases := rfl
@[simp] theorem State.offerEntropy_responses (s : State) (w : Word) : (s.offerEntropy w).responses = s.responses := rfl

/-! ### State.respond -/

@[simp] theorem State.respond_X (s : State) (r : Response) : (s.respond r).X = s.X := rfl
@[simp] theorem State.respond_ie (s : State) (r : Response) : (s.respond r).ie = s.ie := rfl
@[simp] theorem State.respond_busy (s : State) (r : Response) : (s.respond r).busy = s.busy := rfl
@[simp] theorem State.respond_done (s : State) (r : Response) : (s.respond r).done = s.done := rfl
@[simp] theorem State.respond_prime (s : State) (r : Response) : (s.respond r).prime = s.prime := rfl
@[simp] theorem State.respond_coll (s : State) (r : Response) : (s.respond r).coll = s.coll := rfl
@[simp] theorem State.respond_err (s : State) (r : Response) : (s.respond r).err = s.err := rfl
@[simp] theorem State.respond_fsm (s : State) (r : Response) : (s.respond r).fsm = s.fsm := rfl
@[simp] theorem State.respond_cmd (s : State) (r : Response) : (s.respond r).cmd = s.cmd := rfl
@[simp] theorem State.respond_A (s : State) (r : Response) : (s.respond r).A = s.A := rfl
@[simp] theorem State.respond_B (s : State) (r : Response) : (s.respond r).B = s.B := rfl
@[simp] theorem State.respond_C (s : State) (r : Response) : (s.respond r).C = s.C := rfl
@[simp] theorem State.respond_gbits (s : State) (r : Response) : (s.respond r).gbits = s.gbits := rfl
@[simp] theorem State.respond_cand (s : State) (r : Response) : (s.respond r).cand = s.cand := rfl
@[simp] theorem State.respond_phase (s : State) (r : Response) : (s.respond r).phase = s.phase := rfl
@[simp] theorem State.respond_kt (s : State) (r : Response) : (s.respond r).kt = s.kt := rfl
@[simp] theorem State.respond_kp (s : State) (r : Response) : (s.respond r).kp = s.kp := rfl
@[simp] theorem State.respond_kq (s : State) (r : Response) : (s.respond r).kq = s.kq := rfl
@[simp] theorem State.respond_params (s : State) (r : Response) : (s.respond r).params = s.params := rfl
@[simp] theorem State.respond_rstN (s : State) (r : Response) : (s.respond r).rstN = s.rstN := rfl
@[simp] theorem State.respond_inbox (s : State) (r : Response) : (s.respond r).inbox = s.inbox := rfl
@[simp] theorem State.respond_entropy (s : State) (r : Response) : (s.respond r).entropy = s.entropy := rfl
@[simp] theorem State.respond_bases (s : State) (r : Response) : (s.respond r).bases = s.bases := rfl
@[simp] theorem State.respond_responses (s : State) (r : Response) : (s.respond r).responses = s.responses ++ [r] := rfl

/-! ### State.setInbox -/

@[simp] theorem State.setInbox_X (s : State) (es : List Event) : (s.setInbox es).X = s.X := rfl
@[simp] theorem State.setInbox_ie (s : State) (es : List Event) : (s.setInbox es).ie = s.ie := rfl
@[simp] theorem State.setInbox_busy (s : State) (es : List Event) : (s.setInbox es).busy = s.busy := rfl
@[simp] theorem State.setInbox_done (s : State) (es : List Event) : (s.setInbox es).done = s.done := rfl
@[simp] theorem State.setInbox_prime (s : State) (es : List Event) : (s.setInbox es).prime = s.prime := rfl
@[simp] theorem State.setInbox_coll (s : State) (es : List Event) : (s.setInbox es).coll = s.coll := rfl
@[simp] theorem State.setInbox_err (s : State) (es : List Event) : (s.setInbox es).err = s.err := rfl
@[simp] theorem State.setInbox_fsm (s : State) (es : List Event) : (s.setInbox es).fsm = s.fsm := rfl
@[simp] theorem State.setInbox_cmd (s : State) (es : List Event) : (s.setInbox es).cmd = s.cmd := rfl
@[simp] theorem State.setInbox_A (s : State) (es : List Event) : (s.setInbox es).A = s.A := rfl
@[simp] theorem State.setInbox_B (s : State) (es : List Event) : (s.setInbox es).B = s.B := rfl
@[simp] theorem State.setInbox_C (s : State) (es : List Event) : (s.setInbox es).C = s.C := rfl
@[simp] theorem State.setInbox_gbits (s : State) (es : List Event) : (s.setInbox es).gbits = s.gbits := rfl
@[simp] theorem State.setInbox_cand (s : State) (es : List Event) : (s.setInbox es).cand = s.cand := rfl
@[simp] theorem State.setInbox_phase (s : State) (es : List Event) : (s.setInbox es).phase = s.phase := rfl
@[simp] theorem State.setInbox_kt (s : State) (es : List Event) : (s.setInbox es).kt = s.kt := rfl
@[simp] theorem State.setInbox_kp (s : State) (es : List Event) : (s.setInbox es).kp = s.kp := rfl
@[simp] theorem State.setInbox_kq (s : State) (es : List Event) : (s.setInbox es).kq = s.kq := rfl
@[simp] theorem State.setInbox_params (s : State) (es : List Event) : (s.setInbox es).params = s.params := rfl
@[simp] theorem State.setInbox_rstN (s : State) (es : List Event) : (s.setInbox es).rstN = s.rstN := rfl
@[simp] theorem State.setInbox_inbox (s : State) (es : List Event) : (s.setInbox es).inbox = es := rfl
@[simp] theorem State.setInbox_entropy (s : State) (es : List Event) : (s.setInbox es).entropy = s.entropy := rfl
@[simp] theorem State.setInbox_bases (s : State) (es : List Event) : (s.setInbox es).bases = s.bases := rfl
@[simp] theorem State.setInbox_responses (s : State) (es : List Event) : (s.setInbox es).responses = s.responses := rfl

/-! ### State.takeCandidate -/

@[simp] theorem State.takeCandidate_X (s : State) : s.takeCandidate.X = s.X := rfl
@[simp] theorem State.takeCandidate_ie (s : State) : s.takeCandidate.ie = s.ie := rfl
@[simp] theorem State.takeCandidate_busy (s : State) : s.takeCandidate.busy = s.busy := rfl
@[simp] theorem State.takeCandidate_done (s : State) : s.takeCandidate.done = s.done := rfl
@[simp] theorem State.takeCandidate_prime (s : State) : s.takeCandidate.prime = s.prime := rfl
@[simp] theorem State.takeCandidate_coll (s : State) : s.takeCandidate.coll = s.coll := rfl
@[simp] theorem State.takeCandidate_err (s : State) : s.takeCandidate.err = s.err := rfl
@[simp] theorem State.takeCandidate_fsm (s : State) : s.takeCandidate.fsm = .gpTest := rfl
@[simp] theorem State.takeCandidate_cmd (s : State) : s.takeCandidate.cmd = s.cmd := rfl
@[simp] theorem State.takeCandidate_A (s : State) : s.takeCandidate.A = s.A := rfl
@[simp] theorem State.takeCandidate_B (s : State) : s.takeCandidate.B = s.B := rfl
@[simp] theorem State.takeCandidate_C (s : State) : s.takeCandidate.C = s.C := rfl
@[simp] theorem State.takeCandidate_gbits (s : State) : s.takeCandidate.gbits = s.gbits := rfl
@[simp] theorem State.takeCandidate_cand (s : State) : s.takeCandidate.cand = candidateOf s.gbits (drawValue s.gbits s.entropy) := rfl
@[simp] theorem State.takeCandidate_phase (s : State) : s.takeCandidate.phase = s.phase := rfl
@[simp] theorem State.takeCandidate_kt (s : State) : s.takeCandidate.kt = s.kt := rfl
@[simp] theorem State.takeCandidate_kp (s : State) : s.takeCandidate.kp = s.kp := rfl
@[simp] theorem State.takeCandidate_kq (s : State) : s.takeCandidate.kq = s.kq := rfl
@[simp] theorem State.takeCandidate_params (s : State) : s.takeCandidate.params = s.params := rfl
@[simp] theorem State.takeCandidate_rstN (s : State) : s.takeCandidate.rstN = s.rstN := rfl
@[simp] theorem State.takeCandidate_inbox (s : State) : s.takeCandidate.inbox = s.inbox := rfl
@[simp] theorem State.takeCandidate_entropy (s : State) : s.takeCandidate.entropy = s.entropy.drop (wordsNeeded s.gbits) := rfl
@[simp] theorem State.takeCandidate_bases (s : State) : s.takeCandidate.bases = s.bases := rfl
@[simp] theorem State.takeCandidate_responses (s : State) : s.takeCandidate.responses = s.responses := rfl

/-! ### State.setBases -/

@[simp] theorem State.setBases_X (s : State) (b : BaseSource) : (s.setBases b).X = s.X := rfl
@[simp] theorem State.setBases_ie (s : State) (b : BaseSource) : (s.setBases b).ie = s.ie := rfl
@[simp] theorem State.setBases_busy (s : State) (b : BaseSource) : (s.setBases b).busy = s.busy := rfl
@[simp] theorem State.setBases_done (s : State) (b : BaseSource) : (s.setBases b).done = s.done := rfl
@[simp] theorem State.setBases_prime (s : State) (b : BaseSource) : (s.setBases b).prime = s.prime := rfl
@[simp] theorem State.setBases_coll (s : State) (b : BaseSource) : (s.setBases b).coll = s.coll := rfl
@[simp] theorem State.setBases_err (s : State) (b : BaseSource) : (s.setBases b).err = s.err := rfl
@[simp] theorem State.setBases_fsm (s : State) (b : BaseSource) : (s.setBases b).fsm = s.fsm := rfl
@[simp] theorem State.setBases_cmd (s : State) (b : BaseSource) : (s.setBases b).cmd = s.cmd := rfl
@[simp] theorem State.setBases_A (s : State) (b : BaseSource) : (s.setBases b).A = s.A := rfl
@[simp] theorem State.setBases_B (s : State) (b : BaseSource) : (s.setBases b).B = s.B := rfl
@[simp] theorem State.setBases_C (s : State) (b : BaseSource) : (s.setBases b).C = s.C := rfl
@[simp] theorem State.setBases_gbits (s : State) (b : BaseSource) : (s.setBases b).gbits = s.gbits := rfl
@[simp] theorem State.setBases_cand (s : State) (b : BaseSource) : (s.setBases b).cand = s.cand := rfl
@[simp] theorem State.setBases_phase (s : State) (b : BaseSource) : (s.setBases b).phase = s.phase := rfl
@[simp] theorem State.setBases_kt (s : State) (b : BaseSource) : (s.setBases b).kt = s.kt := rfl
@[simp] theorem State.setBases_kp (s : State) (b : BaseSource) : (s.setBases b).kp = s.kp := rfl
@[simp] theorem State.setBases_kq (s : State) (b : BaseSource) : (s.setBases b).kq = s.kq := rfl
@[simp] theorem State.setBases_params (s : State) (b : BaseSource) : (s.setBases b).params = s.params := rfl
@[simp] theorem State.setBases_rstN (s : State) (b : BaseSource) : (s.setBases b).rstN = s.rstN := rfl
@[simp] theorem State.setBases_inbox (s : State) (b : BaseSource) : (s.setBases b).inbox = s.inbox := rfl
@[simp] theorem State.setBases_entropy (s : State) (b : BaseSource) : (s.setBases b).entropy = s.entropy := rfl
@[simp] theorem State.setBases_bases (s : State) (b : BaseSource) : (s.setBases b).bases = b := rfl
@[simp] theorem State.setBases_responses (s : State) (b : BaseSource) : (s.setBases b).responses = s.responses := rfl

/-! ### State.nextCandidate -/

@[simp] theorem State.nextCandidate_X (s : State) : s.nextCandidate.X = s.X := rfl
@[simp] theorem State.nextCandidate_ie (s : State) : s.nextCandidate.ie = s.ie := rfl
@[simp] theorem State.nextCandidate_busy (s : State) : s.nextCandidate.busy = s.busy := rfl
@[simp] theorem State.nextCandidate_done (s : State) : s.nextCandidate.done = s.done := rfl
@[simp] theorem State.nextCandidate_prime (s : State) : s.nextCandidate.prime = s.prime := rfl
@[simp] theorem State.nextCandidate_coll (s : State) : s.nextCandidate.coll = s.coll := rfl
@[simp] theorem State.nextCandidate_err (s : State) : s.nextCandidate.err = s.err := rfl
@[simp] theorem State.nextCandidate_fsm (s : State) : s.nextCandidate.fsm = s.fsm := rfl
@[simp] theorem State.nextCandidate_cmd (s : State) : s.nextCandidate.cmd = s.cmd := rfl
@[simp] theorem State.nextCandidate_A (s : State) : s.nextCandidate.A = s.A := rfl
@[simp] theorem State.nextCandidate_B (s : State) : s.nextCandidate.B = s.B := rfl
@[simp] theorem State.nextCandidate_C (s : State) : s.nextCandidate.C = s.C := rfl
@[simp] theorem State.nextCandidate_gbits (s : State) : s.nextCandidate.gbits = s.gbits := rfl
@[simp] theorem State.nextCandidate_cand (s : State) : s.nextCandidate.cand = s.cand + 2 := rfl
@[simp] theorem State.nextCandidate_phase (s : State) : s.nextCandidate.phase = s.phase := rfl
@[simp] theorem State.nextCandidate_kt (s : State) : s.nextCandidate.kt = s.kt := rfl
@[simp] theorem State.nextCandidate_kp (s : State) : s.nextCandidate.kp = s.kp := rfl
@[simp] theorem State.nextCandidate_kq (s : State) : s.nextCandidate.kq = s.kq := rfl
@[simp] theorem State.nextCandidate_params (s : State) : s.nextCandidate.params = s.params := rfl
@[simp] theorem State.nextCandidate_rstN (s : State) : s.nextCandidate.rstN = s.rstN := rfl
@[simp] theorem State.nextCandidate_inbox (s : State) : s.nextCandidate.inbox = s.inbox := rfl
@[simp] theorem State.nextCandidate_entropy (s : State) : s.nextCandidate.entropy = s.entropy := rfl
@[simp] theorem State.nextCandidate_bases (s : State) : s.nextCandidate.bases = s.bases := rfl
@[simp] theorem State.nextCandidate_responses (s : State) : s.nextCandidate.responses = s.responses := rfl

/-! ### State.beginDraw -/

@[simp] theorem State.beginDraw_X (s : State) (n : Nat) : (s.beginDraw n).X = s.X := rfl
@[simp] theorem State.beginDraw_ie (s : State) (n : Nat) : (s.beginDraw n).ie = s.ie := rfl
@[simp] theorem State.beginDraw_busy (s : State) (n : Nat) : (s.beginDraw n).busy = s.busy := rfl
@[simp] theorem State.beginDraw_done (s : State) (n : Nat) : (s.beginDraw n).done = s.done := rfl
@[simp] theorem State.beginDraw_prime (s : State) (n : Nat) : (s.beginDraw n).prime = s.prime := rfl
@[simp] theorem State.beginDraw_coll (s : State) (n : Nat) : (s.beginDraw n).coll = s.coll := rfl
@[simp] theorem State.beginDraw_err (s : State) (n : Nat) : (s.beginDraw n).err = s.err := rfl
@[simp] theorem State.beginDraw_fsm (s : State) (n : Nat) : (s.beginDraw n).fsm = .gpDraw := rfl
@[simp] theorem State.beginDraw_cmd (s : State) (n : Nat) : (s.beginDraw n).cmd = s.cmd := rfl
@[simp] theorem State.beginDraw_A (s : State) (n : Nat) : (s.beginDraw n).A = s.A := rfl
@[simp] theorem State.beginDraw_B (s : State) (n : Nat) : (s.beginDraw n).B = s.B := rfl
@[simp] theorem State.beginDraw_C (s : State) (n : Nat) : (s.beginDraw n).C = s.C := rfl
@[simp] theorem State.beginDraw_gbits (s : State) (n : Nat) : (s.beginDraw n).gbits = n := rfl
@[simp] theorem State.beginDraw_cand (s : State) (n : Nat) : (s.beginDraw n).cand = s.cand := rfl
@[simp] theorem State.beginDraw_phase (s : State) (n : Nat) : (s.beginDraw n).phase = s.phase := rfl
@[simp] theorem State.beginDraw_kt (s : State) (n : Nat) : (s.beginDraw n).kt = s.kt := rfl
@[simp] theorem State.beginDraw_kp (s : State) (n : Nat) : (s.beginDraw n).kp = s.kp := rfl
@[simp] theorem State.beginDraw_kq (s : State) (n : Nat) : (s.beginDraw n).kq = s.kq := rfl
@[simp] theorem State.beginDraw_params (s : State) (n : Nat) : (s.beginDraw n).params = s.params := rfl
@[simp] theorem State.beginDraw_rstN (s : State) (n : Nat) : (s.beginDraw n).rstN = s.rstN := rfl
@[simp] theorem State.beginDraw_inbox (s : State) (n : Nat) : (s.beginDraw n).inbox = s.inbox := rfl
@[simp] theorem State.beginDraw_entropy (s : State) (n : Nat) : (s.beginDraw n).entropy = s.entropy := rfl
@[simp] theorem State.beginDraw_bases (s : State) (n : Nat) : (s.beginDraw n).bases = s.bases := rfl
@[simp] theorem State.beginDraw_responses (s : State) (n : Nat) : (s.beginDraw n).responses = s.responses := rfl

/-! ### State.regenerate -/

@[simp] theorem State.regenerate_X (s : State) : s.regenerate.X = s.X := rfl
@[simp] theorem State.regenerate_ie (s : State) : s.regenerate.ie = s.ie := rfl
@[simp] theorem State.regenerate_busy (s : State) : s.regenerate.busy = s.busy := rfl
@[simp] theorem State.regenerate_done (s : State) : s.regenerate.done = s.done := rfl
@[simp] theorem State.regenerate_prime (s : State) : s.regenerate.prime = s.prime := rfl
@[simp] theorem State.regenerate_coll (s : State) : s.regenerate.coll = s.coll := rfl
@[simp] theorem State.regenerate_err (s : State) : s.regenerate.err = s.err := rfl
@[simp] theorem State.regenerate_fsm (s : State) : s.regenerate.fsm = .gpDraw := rfl
@[simp] theorem State.regenerate_cmd (s : State) : s.regenerate.cmd = s.cmd := rfl
@[simp] theorem State.regenerate_A (s : State) : s.regenerate.A = s.A := rfl
@[simp] theorem State.regenerate_B (s : State) : s.regenerate.B = s.B := rfl
@[simp] theorem State.regenerate_C (s : State) : s.regenerate.C = s.C := rfl
@[simp] theorem State.regenerate_gbits (s : State) : s.regenerate.gbits = s.gbits := rfl
@[simp] theorem State.regenerate_cand (s : State) : s.regenerate.cand = s.cand := rfl
@[simp] theorem State.regenerate_phase (s : State) : s.regenerate.phase = .p := rfl
@[simp] theorem State.regenerate_kt (s : State) : s.regenerate.kt = s.kt := rfl
@[simp] theorem State.regenerate_kp (s : State) : s.regenerate.kp = s.kp := rfl
@[simp] theorem State.regenerate_kq (s : State) : s.regenerate.kq = s.kq := rfl
@[simp] theorem State.regenerate_params (s : State) : s.regenerate.params = s.params := rfl
@[simp] theorem State.regenerate_rstN (s : State) : s.regenerate.rstN = s.rstN := rfl
@[simp] theorem State.regenerate_inbox (s : State) : s.regenerate.inbox = s.inbox := rfl
@[simp] theorem State.regenerate_entropy (s : State) : s.regenerate.entropy = s.entropy := rfl
@[simp] theorem State.regenerate_bases (s : State) : s.regenerate.bases = s.bases := rfl
@[simp] theorem State.regenerate_responses (s : State) : s.regenerate.responses = s.responses := rfl

/-! ### State.placeCommand -/

@[simp] theorem State.placeCommand_X (s : State) (w : Word) : (s.placeCommand w).X = s.X := rfl
@[simp] theorem State.placeCommand_ie (s : State) (w : Word) : (s.placeCommand w).ie = s.ie := rfl
@[simp] theorem State.placeCommand_busy (s : State) (w : Word) : (s.placeCommand w).busy = true := rfl
@[simp] theorem State.placeCommand_done (s : State) (w : Word) : (s.placeCommand w).done = false := rfl
@[simp] theorem State.placeCommand_prime (s : State) (w : Word) : (s.placeCommand w).prime = s.prime := rfl
@[simp] theorem State.placeCommand_coll (s : State) (w : Word) : (s.placeCommand w).coll = s.coll := rfl
@[simp] theorem State.placeCommand_err (s : State) (w : Word) : (s.placeCommand w).err = ErrCode.ok.code := rfl
@[simp] theorem State.placeCommand_fsm (s : State) (w : Word) : (s.placeCommand w).fsm = .start := rfl
@[simp] theorem State.placeCommand_cmd (s : State) (w : Word) : (s.placeCommand w).cmd = w := rfl
@[simp] theorem State.placeCommand_A (s : State) (w : Word) : (s.placeCommand w).A = s.X.get (rs1Field w) := rfl
@[simp] theorem State.placeCommand_B (s : State) (w : Word) : (s.placeCommand w).B = s.X.get (rs2Field w) := rfl
@[simp] theorem State.placeCommand_C (s : State) (w : Word) : (s.placeCommand w).C = s.X.get (rs3Field w) := rfl
@[simp] theorem State.placeCommand_gbits (s : State) (w : Word) : (s.placeCommand w).gbits = s.gbits := rfl
@[simp] theorem State.placeCommand_cand (s : State) (w : Word) : (s.placeCommand w).cand = s.cand := rfl
@[simp] theorem State.placeCommand_phase (s : State) (w : Word) : (s.placeCommand w).phase = s.phase := rfl
@[simp] theorem State.placeCommand_kt (s : State) (w : Word) : (s.placeCommand w).kt = s.kt := rfl
@[simp] theorem State.placeCommand_kp (s : State) (w : Word) : (s.placeCommand w).kp = s.kp := rfl
@[simp] theorem State.placeCommand_kq (s : State) (w : Word) : (s.placeCommand w).kq = s.kq := rfl
@[simp] theorem State.placeCommand_params (s : State) (w : Word) : (s.placeCommand w).params = s.params := rfl
@[simp] theorem State.placeCommand_rstN (s : State) (w : Word) : (s.placeCommand w).rstN = true := rfl
@[simp] theorem State.placeCommand_inbox (s : State) (w : Word) : (s.placeCommand w).inbox = .engine :: s.inbox := rfl
@[simp] theorem State.placeCommand_entropy (s : State) (w : Word) : (s.placeCommand w).entropy = s.entropy := rfl
@[simp] theorem State.placeCommand_bases (s : State) (w : Word) : (s.placeCommand w).bases = s.bases := rfl
@[simp] theorem State.placeCommand_responses (s : State) (w : Word) : (s.placeCommand w).responses = s.responses := rfl

/-! ### Completions are a write and a finish -/

@[simp] theorem completeOk_eq (ws : List (Reg × Nat)) (s : State) : completeOk ws s = (s.writeRegs ws).finish .ok := rfl
@[simp] theorem completeErr_eq (c : ErrCode) (s : State) : completeErr c s = s.finish c := rfl

end Sys2Proof.Machine
end

