-- ==== Sys2Proof/Laws/Ops.lean ====
section
/-! SUPPORT. One lemma per shared operation that says all it can do, for proofs to cite instead of unfolding it. -/

namespace Sys2Proof.Machine

/-! ## Completion and abort -/

theorem completed_finish (c : ErrCode) (s : State) : Completed c (s.finish c) := by simp [Completed]

theorem engineKept_refl (s : State) : EngineKept s s := by simp [EngineKept, SurroundKept]

theorem engineKept_finish (c : ErrCode) (s : State) : EngineKept s (s.finish c) := by simp [EngineKept, SurroundKept]

theorem engineKept_completeOk (ws : List (Reg × Nat)) (s : State) : EngineKept s (completeOk ws s) := by
  simp [EngineKept, SurroundKept]

theorem drawsKept_completeOk (ws : List (Reg × Nat)) (s : State) : DrawsKept s (completeOk ws s) := by simp [DrawsKept]

theorem drawsKept_finish (c : ErrCode) (s : State) : DrawsKept s (s.finish c) := by simp [DrawsKept]

/-- A completion writes no register its list does not name. -/
theorem completeOk_get (ws : List (Reg × Nat)) (s : State) (i : Reg) (h : i ∉ ws.map Prod.fst) :
    (completeOk ws s).X.get i = s.X.get i := by
  simp [RegFile.get_foldl_set _ _ _ h]

theorem abort_cases (s : State) :
    (s.busy = true ∧ s.abort = s.finish .aborted) ∨ (s.busy = false ∧ s.abort = s) := by
  unfold State.abort
  cases s.busy <;> simp

/-- Clearing what an idle block has clear already changes nothing. -/
theorem zeroise_eq_self {s : State} (h : s.gbits = 0 ∧ s.cand = 0 ∧ s.phase = .p ∧ s.kt = 0 ∧ s.kp = 0 ∧ s.kq = 0) :
    s.zeroise = s := by
  obtain ⟨h1, h2, h3, h4, h5, h6⟩ := h
  obtain ⟨b, _, _, _, _, _, _⟩ := s
  cases b
  simp_all [State.zeroise]

/-! ## The candidate steps -/

theorem candidateDraw_cases (s : State) :
    (wordsNeeded s.gbits ≤ s.entropy.length ∧ candidateDraw s = s.takeCandidate) ∨
    (s.entropy.length < wordsNeeded s.gbits ∧ candidateDraw s = s) := by
  unfold candidateDraw State.entropyReady
  by_cases h : wordsNeeded s.gbits ≤ s.entropy.length
  · exact .inl ⟨h, by simp [h]⟩
  · exact .inr ⟨by omega, by simp [h]⟩

theorem candidateTest_cases (f : State → State) (s : State) :
    ((isPrimeFn s.cand s.bases).1 = true ∧ candidateTest f s = f (s.setBases (isPrimeFn s.cand s.bases).2)) ∨
    ((isPrimeFn s.cand s.bases).1 = false ∧
      candidateTest f s = (s.setBases (isPrimeFn s.cand s.bases).2).nextCandidate) := by
  unfold candidateTest
  cases h : (isPrimeFn s.cand s.bases).1 <;> simp [h]

/-! ## The start and derivation steps -/

theorem modexpStart_cases (rd : Reg) (s : State) :
    (s.C ≤ 1 ∧ modexpStart rd s = s.finish .invalidKey) ∨
    (2 ≤ s.C ∧ modexpStart rd s = completeOk [(rd, modexp s.A s.B s.C)] s) := by
  unfold modexpStart
  by_cases h : s.C ≤ 1
  · exact .inl ⟨h, by simp [h]⟩
  · exact .inr ⟨by omega, by simp [h]⟩

theorem modinvStart_cases (rd : Reg) (s : State) :
    (s.B = 0 ∧ modinvStart rd s = s.finish .badArg) ∨
    (s.B ≠ 0 ∧ (xgcd s.A s.B).1 ≠ 1 ∧ modinvStart rd s = s.finish .noInverse) ∨
    (s.B ≠ 0 ∧ (xgcd s.A s.B).1 = 1 ∧ modinvStart rd s = completeOk [(rd, (xgcd s.A s.B).2)] s) := by
  unfold modinvStart
  by_cases h : s.B = 0
  · exact .inl ⟨h, by simp [h]⟩
  · by_cases g : (xgcd s.A s.B).1 = 1
    · exact .inr (.inr ⟨h, g, by simp [h, g]⟩)
    · exact .inr (.inl ⟨h, g, by simp [h, g]⟩)

theorem genprimeStart_cases (s : State) :
    ((s.A < 2 ∨ s.A > s.params.width - 1) ∧ genprimeStart s = s.finish .badArg) ∨
    (2 ≤ s.A ∧ s.A ≤ s.params.width - 1 ∧ genprimeStart s = s.beginDraw s.A) := by
  unfold genprimeStart
  by_cases h : s.A < 2 ∨ s.A > s.params.width - 1
  · exact .inl ⟨h, by rw [if_pos h, completeErr_eq]⟩
  · exact .inr ⟨by omega, by omega, by rw [if_neg h]⟩

theorem keygenStart_cases (s : State) :
    ((s.A < 2 ∨ s.A > s.params.width - 4) ∧ keygenStart s = s.finish .badArg) ∨
    (2 ≤ s.A ∧ s.A ≤ s.params.width - 4 ∧
      keygenStart s = { s with kt := s.A, gbits := s.A / 2 + 1, phase := .p, fsm := .gpDraw }) := by
  unfold keygenStart
  by_cases h : s.A < 2 ∨ s.A > s.params.width - 4
  · exact .inl ⟨h, by rw [if_pos h, completeErr_eq]⟩
  · exact .inr ⟨by omega, by omega, by rw [if_neg h]; rfl⟩

theorem keygenPassed_cases (s : State) :
    (s.phase = .p ∧ keygenPassed s = { s with kp := s.cand, phase := .q, fsm := .gpDraw }) ∨
    (s.phase = .q ∧ keygenPassed s = { s with kq := s.cand, fsm := .kgInv }) := by
  unfold keygenPassed
  cases h : s.phase <;> simp

theorem deriveKey_cases (rd : Reg) (s : State) :
    ((xgcd ePub s.phi).1 = 1 ∧ deriveKey rd s = completeOk (keygenWrites rd s) s) ∨
    ((xgcd ePub s.phi).1 ≠ 1 ∧ deriveKey rd s = s.regenerate) := by
  unfold deriveKey
  by_cases h : (xgcd ePub s.phi).1 = 1
  · exact .inl ⟨h, by simp [h]⟩
  · exact .inr ⟨h, by simp [h]⟩

/-! ## The meanings: when each answers a next state, and which -/

theorem exec_nop_next {s t : State} : exec .nop s = .next t ↔ s.fsm = .start ∧ t = completeOk [] s := by
  simp only [exec, execNop]
  cases s.fsm <;> simp [eq_comm]

theorem exec_modexp_next {rd rs1 rs2 rs3 : Reg} {s t : State} :
    exec (.modexp rd rs1 rs2 rs3) s = .next t ↔ s.fsm = .start ∧ t = modexpStart rd s := by
  simp only [exec, execModexp]
  cases s.fsm <;> simp [eq_comm]

theorem exec_modinv_next {rd rs1 rs2 : Reg} {s t : State} :
    exec (.modinv rd rs1 rs2) s = .next t ↔ s.fsm = .start ∧ t = modinvStart rd s := by
  simp only [exec, execModinv]
  cases s.fsm <;> simp [eq_comm]

theorem exec_isprime_next {rs1 : Reg} {s t : State} :
    exec (.isprime rs1) s = .next t ↔ s.fsm = .start ∧ t = isprimeStart s := by
  simp only [exec, execIsprime]
  cases s.fsm <;> simp [eq_comm]

theorem exec_genprime_next {rd rs1 : Reg} {s t : State} :
    exec (.genprime rd rs1) s = .next t ↔
      (s.fsm = .start ∧ t = genprimeStart s) ∨ (s.fsm = .gpDraw ∧ t = candidateDraw s) ∨
      (s.fsm = .gpTest ∧ t = candidateTest (genprimePassed rd) s) := by
  simp only [exec, execGenprime]
  cases s.fsm <;> simp [eq_comm]

theorem exec_keygen_next {rd rs1 : Reg} {s t : State} :
    exec (.keygen rd rs1) s = .next t ↔
      (s.fsm = .start ∧ t = keygenStart s) ∨ (s.fsm = .gpDraw ∧ t = candidateDraw s) ∨
      (s.fsm = .gpTest ∧ t = candidateTest keygenPassed s) ∨ (s.fsm = .kgInv ∧ t = deriveKey rd s) := by
  simp only [exec, execKeygen]
  cases s.fsm <;> simp [eq_comm]

/-! ## Transactions -/

theorem writeCtrl_cases (v : Word) (s : State) :
    (v.getLsbD 1 = true ∧ s.busy = true ∧ writeCtrl v s = (s.setIe (v.getLsbD 0)).finish .aborted) ∨
    ((v.getLsbD 1 = false ∨ s.busy = false) ∧ writeCtrl v s = s.setIe (v.getLsbD 0)) := by
  unfold writeCtrl State.abort
  cases h : v.getLsbD 1 <;> cases hb : s.busy <;> simp [hb]

theorem writeCmd_cases (w : Word) (s : State) :
    (s.busy = true ∧ writeCmd w s = s.collide) ∨
    (s.busy = false ∧ decode w = none ∧ writeCmd w s = s.finish .illegal) ∨
    (s.busy = false ∧ (∃ i, decode w = some i) ∧ writeCmd w s = s.accept w) := by
  unfold writeCmd
  cases hb : s.busy <;> cases hd : decode w <;> simp

theorem writeLimb_cases (i : Reg) (j : Nat) (v : Word) (s : State) :
    (limbCount s.params ≤ j ∧ writeLimb i j v s = s) ∨
    (j < limbCount s.params ∧ s.busy = true ∧ writeLimb i j v s = s.collide) ∨
    (j < limbCount s.params ∧ s.busy = false ∧
      writeLimb i j v s = { s with X := s.X.set i (setLimb (s.X.get i) j v) }) := by
  unfold writeLimb
  by_cases h : j < limbCount s.params
  · cases hb : s.busy <;> simp [h]
  · exact .inl ⟨by omega, by simp [h]⟩

/-- Everything a transaction can do to the state, whatever it is (20_memory.md R65, 40_control.md R108). -/
theorem Txn.effect_cases (t : Txn) (s : State) :
    t.effect s = s ∨
    (∃ v, t = .write 0x008 4 0xF v ∧ t.effect s = writeCtrl v s) ∨
    (∃ v, t = .write 0x00C 4 0xF v ∧ t.effect s = writeStatus v s) ∨
    (∃ w, t = .write 0x010 4 0xF w ∧ t.effect s = writeCmd w s) ∨
    (∃ off v i j, t = .write off 4 0xF v ∧ target off = .limb i j ∧ t.effect s = writeLimb i j v s) := by
  cases t with
  | read off size => exact .inl rfl
  | write off size strb v =>
    by_cases h : Txn.accepted (.write off size strb v) = true
    · have e : Txn.effect (.write off size strb v) s = busWrite off v s := by simp [Txn.effect, h]
      simp only [Txn.accepted, Bool.and_eq_true, beq_iff_eq] at h
      obtain ⟨⟨rfl, rfl⟩, -⟩ := h
      rw [e]
      have lit : ∀ n : Nat, n < 2 ^ 14 → off.toNat = n → off = BitVec.ofNat 14 n := by
        intro n hn h; apply BitVec.eq_of_toNat_eq; simp only [h, BitVec.toNat_ofNat]; omega
      rcases target_cases off with h | h | h | h | h | ⟨-, -, i, j, h, -, -⟩ | h
      · exact .inl (by simp [busWrite, h.2])
      · exact .inl (by simp [busWrite, h.2])
      · exact .inr (.inl ⟨v, by rw [lit 8 (by norm_num) h.1]; rfl, by simp [busWrite, h.2]⟩)
      · exact .inr (.inr (.inl ⟨v, by rw [lit 12 (by norm_num) h.1]; rfl, by simp [busWrite, h.2]⟩))
      · exact .inr (.inr (.inr (.inl ⟨v, by rw [lit 16 (by norm_num) h.1]; rfl, by simp [busWrite, h.2]⟩)))
      · exact .inr (.inr (.inr (.inr ⟨off, v, i, j, rfl, h, by simp [busWrite, h]⟩)))
      · exact .inl (by simp [busWrite, h])
    · exact .inl (by simp [Txn.effect, h])

/-- An aligned 32-bit read out of reset: its data, and nothing changes but the answer. -/
theorem deliver_read {s : State} {off : Offset} (h : s.rstN = true) (ha : off.toNat % 4 = 0) :
    deliver (.bus (.read off 4)) s = .next (s.respond (.data (busRead off s))) := by
  simp [deliver, h, hostStep, Txn.effect, Txn.answer, Txn.accepted, aligned, ha]

/-- An aligned 32-bit write with all strobes out of reset. -/
theorem deliver_write {s : State} {off : Offset} (v : Word) (h : s.rstN = true) (ha : off.toNat % 4 = 0) :
    deliver (.bus (.write off 4 0xF v)) s = .next ((busWrite off v s).respond .written) := by
  simp [deliver, h, hostStep, Txn.effect, Txn.answer, Txn.accepted, aligned, ha]

theorem busWrite_ctrl (v : Word) (s : State) : busWrite 0x008 v s = writeCtrl v s := rfl
theorem busWrite_status (v : Word) (s : State) : busWrite 0x00C v s = writeStatus v s := rfl
theorem busWrite_cmd (v : Word) (s : State) : busWrite 0x010 v s = writeCmd v s := rfl

theorem busWrite_limb {i : Reg} {j : Nat} (v : Word) (s : State) (h : j < 256) :
    busWrite (limbOffset i j) v s = writeLimb i j v s := by
  simp [busWrite, h]

theorem busRead_limb {i : Reg} {j : Nat} (s : State) (h : j < 256) :
    busRead (limbOffset i j) s = if j < limbCount s.params then BitVec.ofNat 32 (limb (s.X.get i) j) else 0 := by
  simp [busRead, h]

/-- What an offset with nothing behind it names (20_memory.md R63). -/
theorem target_unmapped {off : Offset} (h : 0x010 < off.toNat ∧ off.toNat < 0x400 ∨ 0x2400 ≤ off.toNat) :
    target off = .unmapped := by
  unfold target
  simp only
  rw [if_neg (by omega), if_neg (by omega), if_neg (by omega), if_neg (by omega), if_neg (by omega), if_neg (by omega)]

/-! ## Events and steps -/

@[simp] theorem andThen_next (s : State) (f : State → Result) : andThen (.next s) f = f s := rfl
@[simp] theorem deliverAll_nil (s : State) : deliverAll [] s = .next s := rfl
theorem deliverAll_cons (e : Event) (es : List Event) (s : State) :
    deliverAll (e :: es) s = andThen (deliver e s) (deliverAll es) := rfl
@[simp] theorem engineSteps_zero (s : State) : engineSteps 0 s = .next s := rfl
theorem engineSteps_succ (n : Nat) (s : State) : engineSteps (n + 1) s = andThen (engineStep s) (engineSteps n) := rfl

/-- A list of events goes through its first part and then its second. -/
theorem deliverAll_append (xs ys : List Event) (s : State) :
    deliverAll (xs ++ ys) s = andThen (deliverAll xs s) (deliverAll ys) := by
  induction xs generalizing s with
  | nil => rfl
  | cons e xs ih =>
    simp only [List.cons_append, deliverAll_cons]
    cases deliver e s <;> simp [andThen, ih]

/-- With a command running out of reset, an engine step is `exec` of the command. -/
theorem engineStep_eq_exec {s : State} {i : Instr} (hr : s.rstN = true) (hf : s.fsm ≠ .idle)
    (hd : decode s.cmd = some i) : engineStep s = exec i s := by
  simp [engineStep, State.engineEnabled, hr, hf, hd]

/-- With no command running, scheduling the engine changes nothing. -/
theorem engineStep_idle {s : State} (hf : s.fsm = .idle) : engineStep s = .next s := by
  simp [engineStep, State.engineEnabled, hf]

theorem engineStep_cases (s : State) :
    (engineStep s = .next s ∧ (s.rstN = false ∨ s.fsm = .idle)) ∨
    (s.rstN = true ∧ s.fsm ≠ .idle ∧ ∃ i, decode s.cmd = some i ∧ engineStep s = exec i s) ∨
    (s.rstN = true ∧ s.fsm ≠ .idle ∧ decode s.cmd = none ∧ engineStep s = .fault .undispatched) := by
  unfold engineStep State.engineEnabled
  cases hr : s.rstN
  · exact .inl (by simp)
  · by_cases hf : s.fsm = .idle
    · exact .inl (by simp [hf])
    · cases hd : decode s.cmd with
      | none => exact .inr (.inr ⟨rfl, hf, rfl, by simp [hf]⟩)
      | some i => exact .inr (.inl ⟨rfl, hf, i, rfl, by simp [hf]⟩)

/-- Everything an event can do when it answers a next state. -/
theorem deliver_cases {e : Event} {s t : State} (h : deliver e s = .next t) :
    (∃ x, e = .bus x ∧ s.rstN = true ∧ t = (x.effect s).respond (x.answer s)) ∨
    (e = .engine ∧ t = s) ∨
    (e = .engine ∧ s.rstN = true ∧ s.fsm ≠ .idle ∧ ∃ i, decode s.cmd = some i ∧ exec i s = .next t) ∨
    (e = .resetAssert ∧ t = s.assertReset) ∨ (e = .resetRelease ∧ t = s.releaseReset) ∨
    (∃ w, e = .entropy w ∧ t = s.offerEntropy w) := by
  cases e with
  | bus x =>
    left
    unfold deliver at h
    cases hr : s.rstN <;> simp [hr, hostStep] at h
    exact ⟨x, rfl, rfl, h.symm⟩
  | engine =>
    simp only [deliver] at h
    rcases engineStep_cases s with ⟨e, -⟩ | ⟨hr, hf, i, hd, e⟩ | ⟨-, -, -, e⟩
    · exact .inr (.inl ⟨rfl, by rw [e] at h; cases h; rfl⟩)
    · exact .inr (.inr (.inl ⟨rfl, hr, hf, i, hd, by rw [← e]; exact h⟩))
    · rw [e] at h; cases h
  | resetAssert => cases h; exact .inr (.inr (.inr (.inl ⟨rfl, rfl⟩)))
  | resetRelease => cases h; exact .inr (.inr (.inr (.inr (.inl ⟨rfl, rfl⟩))))
  | entropy w => cases h; exact .inr (.inr (.inr (.inr (.inr ⟨w, rfl, rfl⟩))))

/-- A step is the delivery of the first event, or of the engine's where there is none. -/
theorem step_cases (s : State) :
    (s.inbox = [] ∧ step s = deliver .engine s) ∨
    (∃ e rest, s.inbox = e :: rest ∧ step s = deliver e (s.setInbox rest)) := by
  unfold step takeEvent
  cases h : s.inbox with
  | nil => exact .inl ⟨rfl, rfl⟩
  | cons e rest => exact .inr ⟨e, rest, rfl, rfl⟩

end Sys2Proof.Machine
end

