-- ==== Sys2Proof/Laws/PerInstr.lean ====
section
/-! SUPPORT. Statements about every instruction as syntax, one lemma per constructor. -/

namespace Sys2Proof.Laws

/-- The word of a command carries its opcode in `OPC` and has no reserved bit set (30_encoding.md R81). -/
def EncodedFields.Statement (i : Instr) : Prop := opcField (encode i) = i.opcode ∧ reservedSet (encode i) = false

theorem EncodedFields.nop : EncodedFields.Statement .nop := by unfold Statement; decide

theorem EncodedFields.modexp (rd rs1 rs2 rs3 : Reg) : EncodedFields.Statement (.modexp rd rs1 rs2 rs3) := by
  unfold Statement; revert rd rs1 rs2 rs3; decide +kernel

theorem EncodedFields.modinv (rd rs1 rs2 : Reg) : EncodedFields.Statement (.modinv rd rs1 rs2) := by
  unfold Statement; revert rd rs1 rs2; decide +kernel

theorem EncodedFields.isprime (rs1 : Reg) : EncodedFields.Statement (.isprime rs1) := by
  unfold Statement; revert rs1; decide +kernel

theorem EncodedFields.genprime (rd rs1 : Reg) : EncodedFields.Statement (.genprime rd rs1) := by
  unfold Statement; revert rd rs1; decide +kernel

theorem EncodedFields.keygen (rd rs1 : Reg) : EncodedFields.Statement (.keygen rd rs1) := by
  unfold Statement; revert rd rs1; decide +kernel

end Sys2Proof.Laws
end

