-- ==== Sys2Proof/Tests/Slice0.lean ====
section
/-! SUPPORT. Tests: values from the spec's own vectors (95_test_vectors.md, cited V-…), and for each statement with
hypotheses a concrete state that meets them. -/

namespace Sys2Proof.Tests

open Sys2Proof Sys2Proof.Machine

/-! ## Helpers -/

/-- The next state, where there is one. -/
def got : Result → Option State
  | .next s => some s
  | .fault _ => none
  | .refused _ => none

/-- `W = 64`, as in most of the vectors. -/
def p64 : Params := ⟨64, true, 0⟩

/-- After reset with `W = 64` and these operand registers. -/
def loaded (x : RegFile) : State := { State.resetWith p64 with X := x }

/-- The same with the word `w` just accepted. -/
def accepted (w : Word) (x : RegFile) : State := (loaded x).accept w

/-- `X0`, `X1`, `X2`, `X3` given, the others 0. -/
def regs (a b c d : Nat) : RegFile := ⟨a, b, c, d, 0, 0, 0, 0⟩

/-- A KEYGEN of `T` in KG_INV with its two primes, its results going to `X4`..`X7`. -/
def deriving' (t p q : Nat) : State :=
  { accepted 0x00000405 (regs t 0 0 0) with
    fsm := .kgInv, phase := .q, gbits := t / 2 + 1, kt := t, kp := p, kq := q }

/-- A GENPRIME of `bits` into `X2` in GP_TEST with the candidate `c`. -/
def testing (bits c : Nat) : State :=
  { accepted 0x00001204 (regs 0 bits 0 0) with fsm := .gpTest, gbits := bits, cand := c }

/-- A GENPRIME of `bits` into `X2` in GP_DRAW with the words `e` offered. -/
def drawing (bits : Nat) (e : List Word) : State :=
  { accepted 0x00001204 (regs 0 bits 0 0) with fsm := .gpDraw, gbits := bits, entropy := e }

/-! ## Well-formedness: the one check refuses KEYGEN into another register than `x0` or `x4` -/

theorem test_wf_refuses_keygen_x1 : (Instr.keygen 1 0).wf = false := by decide
theorem test_wf_refuses_keygen_x6 : (Instr.keygen 6 0).wf = false := by decide
theorem test_wf_takes_keygen_x4 : (Instr.keygen 4 7).wf = true := by decide

/-! ## Decoding: words written out from the fields of 30_encoding.md R81, and from the vectors of section 2.1 -/

/-- reserved(9) RS3 0 RS2 0 RS1 0 RD 00 OPC -/
theorem test_decode_nop_bits : decode 0b000000000_000_0_000_0_000_0_000_00_000000 = some .nop := by decide
theorem test_decode_modexp_bits :
    decode 0b000000000_011_0_010_0_001_0_101_00_000001 = some (.modexp 5 1 2 3) := by decide
theorem test_decode_modinv_bits :
    decode 0b000000000_000_0_010_0_001_0_011_00_000010 = some (.modinv 3 1 2) := by decide
theorem test_decode_isprime_bits : decode 0b000000000_000_0_000_0_111_0_000_00_000011 = some (.isprime 7) := by decide
theorem test_decode_genprime_bits : decode 0b000000000_000_0_000_0_001_0_010_00_000100 = some (.genprime 2 1) := by
  decide
theorem test_decode_keygen_bits : decode 0b000000000_000_0_000_0_111_0_100_00_000101 = some (.keygen 4 7) := by decide
theorem test_decode_illegal_words :
    ([0x3F, 0x800, 0x205, 0x11005, 0x1303, 0x11003, 0x101004, 0x100002, 0x800001, 0x40000000] : List Word).all
      (fun w => decode w == none) = true := by decide
theorem test_decode_names_the_reason :
    illegalReason 0x3F = some .opcode ∧ illegalReason 0x80 = some .reservedBit ∧
      illegalReason 0x101003 = some .unusedField ∧ illegalReason 0x105 = some .keygenDest := by decide
theorem test_encode_words :
    encode (.modexp 2 1 4 6) = 0x00641201 ∧ encode (.keygen 4 0) = 0x00000405 ∧ encode (.isprime 2) = 0x00002003 := by
  decide
theorem test_assemble_line :
    assemble "  enc x5, x1 ,x2, x3 ; P1".toList = .ok (some (.modexp 5 1 2 3)) ∧
      assemble "KEYGEN x1, x0".toList = .error .keygenDest ∧ assemble "nop x0".toList = .error .operands ∧
      assemble "; nothing".toList = .ok none ∧ assemble "isprime x8".toList = .error .operands := by decide

/-! ## The bus (section 2.2) -/

/-- V-B2, V-B5 and the ID register -/
theorem test_reads :
    busRead 0x000 (loaded .zero) = 0x52534145 ∧ busRead 0x004 (loaded .zero) = 0x08140040 ∧
      Txn.answer (.read 0x002 4) (loaded .zero) = .readError 0 ∧
      configWord ⟨4096, false, 0⟩ = 0x08141000 := by decide
/-- V-B15, V-B16: the upper limb is stale -/
theorem test_limb_write : (busWrite 0x800 5 (loaded (regs 0 0x100000003 0 0))).X.x1 = 0x100000005 := by decide
/-- V-B9: limb 2 is absent at `W = 64` -/
theorem test_absent_limb :
    busWrite 0x808 0xFFFFFFFF (loaded .zero) = loaded .zero ∧ busRead 0x808 (loaded .zero) = 0 := by decide
/-- V-B13 -/
theorem test_ctrl_write : busRead 0x008 (busWrite 0x008 0xFFFFFFFF (loaded .zero)) = 1 := by decide
/-- V-B14 -/
theorem test_status_write :
    busRead 0x00C (busWrite 0x00C 0xFFFFFFFF
      { loaded .zero with done := true, coll := true, prime := true, err := 2 }) = 0x00000204 := by decide
/-- V-E1, V-E2 -/
theorem test_illegal_and_collision :
    (busWrite 0x010 0x6 (loaded .zero)).statusWord = 0x00000102 ∧
      (busWrite 0x010 0x6 (accepted 0 .zero)).statusWord = 0x00000009 := by decide
/-- V-E3, V-E4: a present limb collides, an absent one does not -/
theorem test_limb_write_while_busy :
    (busWrite 0x800 7 (accepted 0 .zero)).coll = true ∧ (busWrite 0x808 7 (accepted 0 .zero)).coll = false := by decide
/-- V-N4 -/
theorem test_abort : (busWrite 0x008 2 (accepted 0 .zero)).statusWord = 0x00000502 := by decide
/-- V-E9 -/
theorem test_reset_while_busy : (accepted 0x00321501 (regs 1 2 3 4)).assertReset.toBlock = Block.reset := by decide
/-- V-B17 -/
theorem test_irq : ((accepted 0 .zero).setIe true |>.finish .ok).irq = true := by decide
/-- Base address 0x40000000: the offset of a bus address (20_memory.md R60) -/
theorem test_offset_of :
    offsetOf ⟨64, false, 0x40000000⟩ 0x40000804 = some 0x804 ∧ offsetOf ⟨64, false, 0x40000000⟩ 0x40004000 = none := by
  decide
/-- 20_memory.md R75: a setup cycle is no transaction, an access cycle is -/
theorem test_bus_cycle :
    BusCycle.transaction ⟨true, false, true, 0x800, 5, 0xF, true⟩ = none ∧
      BusCycle.transaction ⟨true, true, true, 0x800, 5, 0x3, true⟩ = some (.write 0x800 4 0x3 5) := by decide

/-! ## The commands, at most two a command -/

/-- V-N2 -/
theorem test_nop : (got (exec .nop (accepted 0 .zero))).map (·.statusWord) = some 0x00000002 := by decide
/-- V-N3 -/
theorem test_nop_keeps_prime_and_coll :
    (got (exec .nop { accepted 0 .zero with prime := true, coll := true })).map (·.statusWord) = some 0x0000000E := by
  decide
/-- V-ME12: the destination is also all three sources -/
theorem test_modexp : (got (exec (.modexp 0 0 0 0) (accepted 1 (regs 3 0 0 0)))).map (·.X.x0) = some 0 := by decide
/-- V-ME9 -/
theorem test_modexp_invalid_key :
    (got (exec (.modexp 5 1 2 3) (accepted 0x00321501 (regs 0 5 3 1)))).map (fun t => (t.err, t.X.x5)) = some (2, 0) := by
  decide
/-- V-MI5 -/
theorem test_modinv :
    (got (exec (.modinv 3 1 2) (accepted 0x00021302 (regs 0 65537 116736 0)))).map (·.X.x3) = some 40961 := by decide
/-- V-MI13: BAD_ARG comes before NO_INVERSE -/
theorem test_modinv_bad_arg :
    (got (exec (.modinv 3 1 2) (accepted 0x00021302 .zero))).map (·.err) = some 4 := by decide
/-- V-IP16: a false positive -/
theorem test_isprime_false_positive :
    (got (exec (.isprime 1) { accepted 0x00001003 (regs 0 1373653 0 0) with
      bases := ⟨List.replicate 20 2, 0⟩ })).map (fun t => (t.statusWord, t.bases.queue)) = some (6, []) := by
  decide +kernel
/-- V-IP18: the first round fails and takes one draw -/
theorem test_isprime_composite :
    (got (exec (.isprime 1) { accepted 0x00001003 (regs 0 1373653 0 0) with
      bases := ⟨[5, 2], 0⟩ })).map (fun t => (t.statusWord, t.bases.queue)) = some (2, [2]) := by decide +kernel
/-- P2 step 5 (KEYGEN's draw of the same 9 bits): the word 0xFFFF_FE00 is the draw 0 -/
theorem test_genprime_draw :
    (got (exec (.genprime 2 1) (drawing 9 [0xFFFFFE00, 0xC8]))).map (fun t => (t.cand, t.entropy)) =
      some (257, [0xC8]) := by decide
/-- V-GP12, its last test -/
theorem test_genprime_completes :
    (got (exec (.genprime 2 1) (testing 10 521))).map (fun t => (t.X.x2, t.statusWord)) = some (521, 2) := by
  decide +kernel
/-- V-KG3 -/
theorem test_keygen_derives :
    (got (exec (.keygen 4 0) (deriving' 16 257 457))).map (fun t => (t.X.x4, t.X.x5, t.X.x6, t.X.x7)) =
      some (65537, 40961, 117449, 16) := by decide +kernel
/-- V-KG4, the first attempt -/
theorem test_keygen_retries :
    (got (exec (.keygen 4 0) (deriving' 38 917519 524309))).map (fun t => (t.fsm, t.phase, t.gbits, t.err)) =
      some (.gpDraw, .p, 20, 0) := by decide +kernel
/-- 44_key_derivation.md R185 and V-RT4: with `p = q = 3` the round trip of 2 gives 5 -/
theorem test_round_trip_fails_with_equal_primes :
    xgcd 65537 4 = (1, 1) ∧ modexp 2 65537 9 = 5 ∧ modexp 5 1 9 = 5 := by decide
/-- V-MR7, its first value -/
theorem test_round_trace : modexp 2 81247725 1299963601 = 216480201 := by decide +kernel
/-- P1 steps 7 and 8 -/
theorem test_place_command :
    (got (step ((loaded ⟨0, 0, 0, 117449, 40961, 32134, 0, 0⟩).withFetchWord 32 0x00345601))).map (·.X.x6) =
      some 12345 := by decide +kernel

/-! ## Witnesses: a state of the invariant for each stage of a command -/

theorem inv_start (w : Word) (i : Instr) (x : RegFile) (hd : decode w = some i)
    (hx : ∀ r, x.get r < 2 ^ 64) (hi : Running i (accepted w x)) : StateInv (accepted w x) where
  legal := show p64.Legal by decide
  regs := hx
  busy_iff := ⟨fun _ h => (by cases h), fun _ => rfl⟩
  running := fun _ => ⟨rfl, rfl⟩
  err_le := show (0 : BitVec 4).toNat ≤ 5 by decide
  cleared := fun _ => ⟨rfl, rfl, rfl, rfl, rfl, rfl⟩
  snapshot := fun _ => ⟨hx _, hx _, hx _⟩
  latched := fun _ => ⟨i, hd, hi⟩
  inReset := fun h => by cases h

theorem inv_genprime_start : StateInv (accepted 0x00001204 (regs 0 10 0 0)) :=
  inv_start _ (.genprime 2 1) _ (by decide) (by decide) (.inl rfl)

theorem inv_keygen_start : StateInv { accepted 0x00000405 (regs 16 0 0 0) with entropy := [0xFFFFFE00, 0xC8] } :=
  { inv_start 0x00000405 (.keygen 4 0) (regs 16 0 0 0) (by decide) (by decide) (.inl rfl) with }

theorem inv_keygen_derives : StateInv (deriving' 16 257 457) where
  legal := by decide
  regs := by decide
  busy_iff := ⟨fun _ => by decide, fun _ => rfl⟩
  running := fun _ => ⟨rfl, rfl⟩
  err_le := by decide
  cleared := by decide
  snapshot := fun _ => by decide
  latched := fun _ => ⟨.keygen 4 0, by decide, .inr ⟨.inr (.inr ⟨rfl, rfl, by decide, by decide, by decide,
    .inl (by decide)⟩), fun _ => ⟨by decide, by decide, by decide, .inl (by decide)⟩, by decide, rfl, by decide,
    by decide⟩⟩
  inReset := fun h => by cases h

/-! ## Witnesses, statement by statement -/

theorem witness_NoStepWhileResetAsserted : (loaded .zero).assertReset.rstN = false := rfl
theorem witness_ResetMeetsInvariant : p64.Legal ∧ Params.Legal ⟨8192, false, 0⟩ := by decide
theorem witness_StepKeepsInvariant :
    ∃ t, StateInv (accepted 0x00001204 (regs 0 10 0 0)) ∧ step (accepted 0x00001204 (regs 0 10 0 0)) = .next t :=
  ⟨_, inv_genprime_start, rfl⟩
theorem witness_InvariantStatesStepOn :
    StateInv (deriving' 16 257 457) ∧ (deriving' 16 257 457).rstN = true := ⟨inv_keygen_derives, rfl⟩
theorem witness_DecodeOfEncode : (Instr.keygen 4 7).wf = true ∧ (Instr.modexp 7 7 7 7).wf = true := by decide
theorem witness_EncodeOfDecode : decode 0x00777701 = some (.modexp 7 7 7 7) := by decide
theorem witness_LegalWordsAreThoseOfOneRow :
    (decode 0x105 = none ∧ (loaded .zero).busy = false) ∧ (accepted 0 .zero).busy = true := by decide
theorem witness_AssembleOfDisassemble : (Instr.keygen 0 7).wf = true := by decide
theorem witness_StepRunsDecodedCommand :
    (accepted 0 .zero).rstN = true ∧ (accepted 0 .zero).fsm ≠ .idle ∧ decode (accepted 0 .zero).cmd = some .nop ∧
      (accepted 0 .zero).inbox = [] := by decide
theorem witness_StepRunsDecodedCommand_scheduled :
    ((accepted 0 .zero).setInbox [.engine, .resetAssert]).inbox = .engine :: [.resetAssert] ∧
      ((accepted 0 .zero).setInbox [.engine, .resetAssert]).rstN = true ∧
      ((accepted 0 .zero).setInbox [.engine, .resetAssert]).fsm ≠ .idle ∧
      decode ((accepted 0 .zero).setInbox [.engine, .resetAssert]).cmd = some .nop := by decide
theorem witness_PlacedWordRunsNext : decode 0x00007405 = some (.keygen 4 7) := by decide
/-- each row of the table at its first and last offset, and the values its clause gives -/
theorem witness_ReadReturnsTheTable :
    (loaded .zero).rstN = true ∧
    busRead (limbOffset 0 0) (loaded (regs 0xFFFFFFFF00000001 0 0 0)) = 1 ∧
    busRead (limbOffset 0 1) (loaded (regs 0xFFFFFFFF00000001 0 0 0)) = 0xFFFFFFFF ∧
    busRead (limbOffset 0 2) (loaded (regs 0xFFFFFFFF00000001 0 0 0)) = 0 ∧
    busRead (limbOffset 7 255) (loaded (regs 0xFFFFFFFF00000001 0 0 0)) = 0 ∧
    (limbOffset 0 0).toNat = 0x400 ∧ (limbOffset 7 255).toNat = 0x23FC ∧
    busRead 0x014 (loaded .zero) = 0 ∧ busRead 0x3FC (loaded .zero) = 0 ∧ busRead 0x2400 (loaded .zero) = 0 ∧
    busRead 0x3FFC (loaded .zero) = 0 := by decide
theorem witness_LimbWriteSetsOneLimb :
    (loaded .zero).rstN = true ∧ 1 < (loaded .zero).params.width / 32 ∧ (loaded .zero).busy = false ∧
      (accepted 0 .zero).busy = true ∧ (loaded .zero).params.width / 32 ≤ 2 ∧ (255 : Nat) < 256 := by decide
theorem witness_StatusWriteClearsByOne : (accepted 0 .zero).rstN = true ∧ (2 : Word).getLsbD 1 = true := by decide
theorem witness_CtrlWriteAborts :
    ((accepted 0 .zero).rstN = true ∧ (3 : Word).getLsbD 1 = true ∧ (accepted 0 .zero).busy = true) ∧
      (1 : Word).getLsbD 1 = false ∧ (loaded .zero).busy = false := by decide
theorem witness_CmdWriteAcceptsOrCompletesIllegal :
    (loaded .zero).rstN = true ∧ (loaded .zero).busy = false ∧ decode 6 = none ∧ decode 5 ≠ none := by decide
theorem witness_CmdWriteWhileBusyCollides : (accepted 0 .zero).rstN = true ∧ (accepted 0 .zero).busy = true := by decide
theorem witness_OtherTransactionsAnswerSlverr :
    (loaded .zero).rstN = true ∧ (2 : Nat) ≠ 4 ∧ (0x801 : Offset).toNat % 4 ≠ 0 ∧ (0x3 : BitVec 4) ≠ 0xF := by decide
theorem witness_UnmappedReadsZeroAndIgnoresWrites :
    (loaded .zero).rstN = true ∧ (0x014 : Offset).toNat % 4 = 0 ∧ 0x010 < (0x014 : Offset).toNat ∧
      (0x3FC : Offset).toNat < 0x400 ∧ 0x2400 ≤ (0x2400 : Offset).toNat ∧ (0x004 : Offset).toNat < 0x008 := by decide
theorem witness_WritesAreIdempotent :
    (loaded .zero).rstN = true ∧ (0x008 : Offset).toNat % 4 = 0 ∧ (0x008 : Offset).toNat ≠ 0x010 ∧
      (1 : Word).getLsbD 1 = false := by decide
theorem witness_WindowBytesAreLittleEndian :
    (loaded .zero).params.Legal ∧ 7 < (loaded .zero).params.width / 8 := by decide
theorem witness_LdxLoadsAndLdxsLeavesUpperLimbs :
    (loaded .zero).rstN = true ∧ (loaded .zero).busy = false ∧ (loaded .zero).params.Legal ∧
      (loaded .zero).X.get 1 < 2 ^ (loaded .zero).params.width ∧
      2 ^ 64 - 1 < 2 ^ (loaded .zero).params.width ∧ 2 ≤ (loaded .zero).params.width / 32 := by decide
theorem witness_RdxReadsTheRegister :
    (loaded (regs (2 ^ 64 - 1) 0 0 0)).rstN = true ∧ p64.Legal ∧
      (loaded (regs (2 ^ 64 - 1) 0 0 0)).X.get 0 < 2 ^ (loaded (regs 0 0 0 0)).params.width := by decide
theorem witness_ModexpIsPowerModulo : (2 : Nat) ≤ 2 ∧ modexp 0 0 2 = 1 := by decide
theorem witness_XgcdIsBezout : (1 : Nat) ≤ 1 ∧ xgcd 5 1 = (1, 0) := by decide
theorem witness_RoundIsTheStrongTest : 5 % 2 = 1 ∧ 5 ≤ 5 ∧ 2 ≤ 3 ∧ 3 ≤ 5 - 2 := by decide
theorem witness_PrimesPassUnderEveryDraw : Nat.Prime 547 := by norm_num
theorem witness_VerdictIsThatOfTheRoundsTaken :
    1373653 ∉ smallPrimes ∧ smallFactor 1373653 = false ∧ (5 :: List.replicate 19 2).length = 20 ∧
      (∀ a ∈ 5 :: List.replicate 19 2, 2 ≤ a ∧ a ≤ 1373653 - 2) ∧ mrRound 1373653 5 = false ∧
      (∀ a ∈ List.replicate 20 2, mrRound 1373653 a = true) := by decide +kernel
theorem witness_CompositesAreRejectedUnderSomeDraws :
    ¬ Nat.Prime 299209 ∧ 299209 ∉ smallPrimes ∧ smallFactor 299209 = false :=
  ⟨by norm_num, by decide +kernel, by decide +kernel⟩
theorem witness_VerdictIsExactBelow299209 :
    (547 ∉ smallPrimes ∧ smallFactor 547 = false) ∧ 2 ≤ 299208 ∧ 299208 < 299209 := by decide +kernel
theorem witness_NopCompletes : (accepted 0 .zero).fsm = .start ∧ (accepted 0 .zero).busy = true := by decide
theorem witness_ModexpCompletes :
    (accepted 0x00321501 (regs 0 4 13 2)).fsm = .start ∧ 2 ≤ (accepted 0x00321501 (regs 0 4 13 2)).C ∧
      (accepted 0x00321501 (regs 0 5 3 1)).C ≤ 1 := by decide
theorem witness_ModinvCompletes :
    (accepted 0x00021302 (regs 0 3 11 0)).fsm = .start ∧
      ((accepted 0x00021302 (regs 0 3 11 0)).B ≠ 0 ∧
        Nat.gcd (accepted 0x00021302 (regs 0 3 11 0)).A (accepted 0x00021302 (regs 0 3 11 0)).B = 1) ∧
      ((accepted 0x00021302 (regs 0 6 9 0)).B ≠ 0 ∧
        Nat.gcd (accepted 0x00021302 (regs 0 6 9 0)).A (accepted 0x00021302 (regs 0 6 9 0)).B ≠ 1) ∧
      (accepted 0x00021302 .zero).B = 0 := by decide
theorem witness_IsprimeCompletes :
    (accepted 0x00001003 (regs 0 547 0 0)).fsm = .start ∧ Nat.Prime (accepted 0x00001003 (regs 0 547 0 0)).A ∧
      (accepted 0x00001003 (regs 0 1 0 0)).A < 2 ∧ 541 < (accepted 0x00001003 (regs 0 561 0 0)).A ∧
      (∃ p ∈ smallPrimes, p ∣ (accepted 0x00001003 (regs 0 561 0 0)).A) :=
  ⟨rfl, by show Nat.Prime 547; norm_num, by decide, by decide, 3, by decide, by decide⟩
theorem witness_GenprimeStarts :
    (accepted 0x00001204 (regs 0 63 0 0)).fsm = .start ∧ (accepted 0x00001204 (regs 0 63 0 0)).params.Legal ∧
      2 ≤ (accepted 0x00001204 (regs 0 63 0 0)).A ∧
      (accepted 0x00001204 (regs 0 63 0 0)).A ≤ (accepted 0x00001204 (regs 0 63 0 0)).params.width - 1 ∧
      (accepted 0x00001204 (regs 0 63 0 0)).params.width - 1 < (accepted 0x00001204 (regs 0 64 0 0)).A ∧
      (accepted 0x00001204 (regs 0 1 0 0)).A < 2 := by decide
theorem witness_CandidateDrawnHasTheBits :
    (drawing 33 [1, 2]).fsm = .gpDraw ∧ 2 ≤ (drawing 33 [1, 2]).gbits ∧
      (drawing 33 [1, 2]).entropy = [1, 2] ++ [] ∧ ([1, 2] : List Word).length = ((drawing 33 [1, 2]).gbits + 31) / 32 ∧
      (drawing 33 [1]).entropy.length < ((drawing 33 [1]).gbits + 31) / 32 := by decide
theorem witness_GenprimeTestsACandidate :
    (testing 10 521).fsm = .gpTest ∧ (isPrimeFn 521 (testing 10 521).bases).1 = true ∧
      (isPrimeFn 519 (testing 10 519).bases).1 = false := by decide +kernel
theorem witness_KeygenStarts :
    (accepted 0x00000405 (regs 60 0 0 0)).fsm = .start ∧ (accepted 0x00000405 (regs 60 0 0 0)).params.Legal ∧
      2 ≤ (accepted 0x00000405 (regs 60 0 0 0)).A ∧
      (accepted 0x00000405 (regs 60 0 0 0)).A ≤ (accepted 0x00000405 (regs 60 0 0 0)).params.width - 4 ∧
      (accepted 0x00000405 (regs 60 0 0 0)).params.width - 4 < (accepted 0x00000405 (regs 61 0 0 0)).A ∧
      (accepted 0x00000405 (regs 1 0 0 0)).A < 2 := by decide
theorem witness_KeygenTestsACandidate :
    ({ deriving' 16 257 0 with fsm := .gpTest, cand := 457 } : State).fsm = .gpTest ∧
      (isPrimeFn 457 (deriving' 16 257 0).bases).1 = true ∧ (deriving' 16 257 0).phase = .q ∧
      ({ deriving' 16 0 0 with phase := .p } : State).phase = .p ∧
      (isPrimeFn 459 (deriving' 16 257 0).bases).1 = false := by decide +kernel
theorem witness_KeygenDerivesTheKey :
    (deriving' 16 257 457).fsm = .kgInv ∧ 2 ≤ (deriving' 16 257 457).kp ∧ 2 ≤ (deriving' 16 257 457).kq ∧
      Nat.gcd 65537 (256 * 456) = 1 ∧ Nat.gcd 65537 (917518 * 524308) ≠ 1 := by decide +kernel
/-- a write to CMD, to the least limb, to the last limb present at `W = 64`, and to an absent one -/
theorem witness_CommandRunsOnItsSnapshot :
    (loaded (regs 0 4 13 497)).rstN = true ∧ (loaded (regs 0 4 13 497)).busy = false ∧
      (Instr.modexp 5 1 2 3).wf = true ∧ (Instr.keygen 4 7).wf = true ∧ 2 ≤ (loaded (regs 0 4 13 497)).X.get 3 ∧
      ∀ x ∈ [((0x010 : Offset), (6 : Word)), (limbOffset 1 0, 7), (limbOffset 1 1, 7), (limbOffset 1 255, 7)],
        x.1 = 0x010 ∨ ∃ r j, j < 256 ∧ x.1 = limbOffset r j := by
  refine ⟨rfl, rfl, rfl, rfl, by decide, fun x hx => ?_⟩
  simp only [List.mem_cons, List.not_mem_nil, or_false] at hx
  rcases hx with rfl | rfl | rfl | rfl
  · exact .inl rfl
  · exact .inr ⟨1, 0, by decide, rfl⟩
  · exact .inr ⟨1, 1, by decide, rfl⟩
  · exact .inr ⟨1, 255, by decide, rfl⟩
theorem witness_EngineStepFrame :
    ((got (exec (.modexp 5 1 2 3) (accepted 0x00321501 (regs 0 4 13 497)))).map (·.X)) =
      some ⟨0, 4, 13, 497, 0, 445, 0, 0⟩ := by decide
theorem witness_RunningCommandIsInvisible :
    (got (exec (.genprime 2 1) (accepted 0x00001204 (regs 0 10 0 0)))).map (·.fsm) = some .gpDraw := by decide
theorem witness_ErrorCodesAreRaisedByTheirCommands :
    (accepted 0x00321501 (regs 0 5 3 1)).err = 0 ∧ (accepted 0x00321501 (regs 0 5 3 1)).params.Legal ∧
      (got (exec (.modexp 5 1 2 3) (accepted 0x00321501 (regs 0 5 3 1)))).map (·.err) = some 2 ∧
      (got (exec (.modinv 3 1 2) (accepted 0x00021302 (regs 0 6 9 0)))).map (·.err) = some 3 ∧
      (got (exec (.keygen 4 0) (accepted 0x00000405 (regs 61 0 0 0)))).map (·.err) = some 4 := by decide
theorem witness_OnlyIsprimeChangesPrime :
    (got (step (accepted 0x00001003 (regs 0 2 0 0)))).map (·.prime) = some true ∧
      (got (step ({ loaded .zero with prime := true, inbox := [.resetAssert] }))).map (·.prime) = some false := by
  decide +kernel
theorem witness_OnlyCtrlWriteOrResetChangesIe :
    (got (step ((loaded .zero).setInbox [.bus (writeTxn 0x008 1)]))).map (·.ie) = some true ∧
      (got (step (((loaded .zero).setIe true).setInbox [.resetAssert]))).map (·.ie) = some false := by decide
theorem witness_CollisionIsTheOnlySourceOfColl :
    (got (step ((accepted 0 .zero).setInbox [.bus (writeTxn 0x804 1)]))).map (·.coll) = some true ∧
      (got (step ((accepted 0 .zero).collide.setInbox [.bus (writeTxn 0x00C 8)]))).map (·.coll) = some false := by decide
theorem witness_OperandRegistersChangeOnlyAsListed :
    (got (step ((loaded .zero).setInbox [.bus (writeTxn 0x804 1)]))).map (·.X.get 1) = some (2 ^ 32) ∧
      (got (step (accepted 0x00321501 (regs 0 4 13 497)))).map (·.X.get 5) = some 445 ∧
      (got (step ((loaded (regs 9 0 0 0)).setInbox [.resetAssert]))).map (·.X.get 0) = some 0 := by decide
theorem witness_InterruptRisesOnlyByCompletionOrEnable :
    ((accepted 0 .zero).setIe true).irq = false ∧ (got (step ((accepted 0 .zero).setIe true))).map (·.irq) = some true ∧
      (got (step (((loaded .zero).finish .ok).setInbox [.bus (writeTxn 0x008 1)]))).map (·.irq) = some true := by decide
theorem witness_AbortAndCompletionInEitherOrder :
    (accepted 0 .zero).rstN = true ∧ (accepted 0 .zero).busy = true ∧ (2 : Word).getLsbD 1 = true ∧
      (got (engineStep (accepted 0 .zero))).map (·.fsm) = some .idle ∧ (accepted 0 .zero).fsm ≠ .idle ∧
      (testing 10 513).busy = true ∧ (got (engineStep (testing 10 513))).map (·.fsm) = some .gpTest := by decide +kernel
theorem witness_IdleLatchIsNotObservable : (loaded .zero).fsm = .idle ∧ (loaded .zero).busy = false := by decide
theorem witness_ReadsDependOnVisibleStateOnly :
    HostVisibleKept (deriving' 16 257 457) (deriving' 16 3 5) ∧
      (deriving' 16 3 5).params = (deriving' 16 257 457).params := by
  simp [HostVisibleKept, deriving']
theorem witness_PrimeWalkIsBounded :
    (testing 10 513).rstN = true ∧ (testing 10 513).fsm = .gpTest ∧
      decode (testing 10 513).cmd = some (.genprime 2 1) ∧ 3 ≤ (testing 10 513).cand ∧
      (testing 10 513).cand % 2 = 1 ∧ Nat.Prime 521 ∧ (testing 10 513).cand ≤ 521 :=
  ⟨rfl, rfl, by decide, by decide, by decide, by norm_num, by decide⟩
theorem witness_GenprimeGivenEntropyCompletes :
    ({ accepted 0x00001204 (regs 0 10 0 0) with entropy := [0] } : State).fsm = .start ∧
      decode (accepted 0x00001204 (regs 0 10 0 0)).cmd = some (.genprime 2 1) ∧ p64.Legal ∧
      2 ≤ (accepted 0x00001204 (regs 0 10 0 0)).A ∧ (accepted 0x00001204 (regs 0 10 0 0)).A ≤ 64 - 1 ∧
      ((accepted 0x00001204 (regs 0 10 0 0)).A + 31) / 32 ≤ ([0] : List Word).length := by decide
theorem witness_GenprimeEndsOnEveryFairSchedule :
    StateInv (accepted 0x00001204 (regs 0 10 0 0)) ∧ (accepted 0x00001204 (regs 0 10 0 0)).rstN = true ∧
      (accepted 0x00001204 (regs 0 10 0 0)).fsm ≠ .idle ∧
      decode (accepted 0x00001204 (regs 0 10 0 0)).cmd = some (.genprime 2 1) ∧
      (accepted 0x00001204 (regs 0 10 0 0)).params.entropyFair = true ∧
      FairSchedule p64 (fun n => if n % 2 = 0 then .engine else .entropy 0) :=
  ⟨inv_genprime_start, rfl, by decide, by decide, rfl,
    fun n => ⟨2 * n, by omega, by simp⟩, fun _ n => ⟨2 * n + 1, 0, by omega, by simp [Nat.add_mod]⟩⟩
theorem witness_KeygenResultsAreAKey :
    StateInv (deriving' 16 257 457) ∧ (deriving' 16 257 457).fsm = .kgInv ∧
      decode (deriving' 16 257 457).cmd = some (.keygen 4 0) ∧
      (got (exec (.keygen 4 0) (deriving' 16 257 457))).map (·.fsm) = some .idle :=
  ⟨inv_keygen_derives, rfl, by decide, by decide +kernel⟩
theorem witness_RoundTripWithDistinctPrimes :
    Nat.Prime 257 ∧ Nat.Prime 457 ∧ 257 ≠ 457 ∧ (xgcd 65537 ((257 - 1) * (457 - 1))).1 = 1 ∧ 117448 < 257 * 457 :=
  ⟨by norm_num, by norm_num, by decide, by decide +kernel, by decide⟩
theorem witness_SmallKeygenCompletes :
    StateInv { accepted 0x00000405 (regs 16 0 0 0) with entropy := [0xFFFFFE00, 0xC8] } ∧
      decode (accepted 0x00000405 (regs 16 0 0 0)).cmd = some (.keygen 4 0) ∧
      2 ≤ (accepted 0x00000405 (regs 16 0 0 0)).A ∧ (accepted 0x00000405 (regs 16 0 0 0)).A ≤ 33 ∧
      (accepted 0x00000405 (regs 16 0 0 0)).fsm = .start ∧ (accepted 0x00000405 (regs 16 0 0 0)).rstN = true :=
  ⟨inv_keygen_start, by decide, by decide, by decide, rfl, rfl⟩
/-- KEYGEN of 38 bits in START, offered the two primes of V-KG4's first attempt as draws -/
theorem witness_RetryIsAdmitted :
    ((deriving' 38 917519 524309).fsm = .kgInv ∧ 2 ≤ (deriving' 38 917519 524309).kp ∧
      2 ≤ (deriving' 38 917519 524309).kq ∧ (deriving' 38 917519 524309).kp % 65537 = 1) ∧
    (∃ s : State, s = { accepted 0x00000405 (regs 38 0 0 0) with entropy := [917519, 524309] } ∧ s.rstN = true ∧
      s.fsm = .start ∧ decode s.cmd = some (.keygen 4 0) ∧ s.params.Legal ∧ s.A = 38 ∧
      s.entropy = 917519#32 :: 524309#32 :: []) ∧
    Params.Legal ⟨64, false, 0⟩ ∧ Params.Legal ⟨8192, false, 0⟩ :=
  ⟨by decide, ⟨_, rfl, rfl, rfl, by decide, by decide, by decide, rfl⟩, by decide, by decide⟩

end Sys2Proof.Tests
end

section
/-! SUPPORT. The loops of Sys2Proof/Machine/Number.lean give the numbers their pseudocode stands for. -/

namespace Sys2Proof.Machine

/-! ## modexp and xgcd (41_arith.md R121) -/

/-- The loop keeps `r * x^e` modulo `m`. -/
theorem modexpLoop_eq (m : Nat) {fuel r x e : Nat} (hr : r < m) (he : e ≤ fuel) :
    modexpLoop m fuel r x e = r * x ^ e % m := by
  induction fuel generalizing r x e with
  | zero => simp [modexpLoop, show e = 0 by omega, Nat.mod_eq_of_lt hr]
  | succ fuel ih =>
    by_cases h0 : e = 0
    · simp [modexpLoop, h0, Nat.mod_eq_of_lt hr]
    have square : (x * x % m) ^ (e / 2) ≡ x ^ (2 * (e / 2)) [MOD m] := by
      rw [pow_mul, pow_two]; exact (Nat.mod_modEq _ _).pow _
    have hm : 0 < m := by omega
    rw [modexpLoop, if_neg h0]
    by_cases odd : e % 2 = 1
    · rw [if_pos odd, ih (Nat.mod_lt _ hm) (by omega)]
      have split : x ^ e = x * x ^ (2 * (e / 2)) := by rw [← pow_succ']; congr 1; omega
      rw [split, ← Nat.mul_assoc]
      exact (Nat.mod_modEq _ _).mul square
    · rw [if_neg odd, ih hr (by omega)]
      have split : x ^ e = x ^ (2 * (e / 2)) := by congr 1; omega
      rw [split]
      exact square.mul_left r

/-- The loop computes the power, with `0^0 = 1`. -/
theorem modexp_eq_pow_mod {m : Nat} (b e : Nat) (hm : 2 ≤ m) : modexp b e m = b ^ e % m := by
  rw [modexp, modexpLoop_eq m (by omega) le_rfl, Nat.one_mul]
  exact (Nat.mod_modEq b m).pow e

theorem modexp_lt {m : Nat} (b e : Nat) (hm : 2 ≤ m) : modexp b e m < m := by
  rw [modexp_eq_pow_mod b e hm]; exact Nat.mod_lt _ (by omega)

/-- The coefficient is reduced to `[0, m)`. -/
theorem xgcd_snd_lt (a : Nat) {m : Nat} (hm : 1 ≤ m) : (xgcd a m).2 < m := by
  have := Int.emod_lt_of_pos (xgcdLoop (a % m + 1) m (a % m) 0 1).2 (show (0 : Int) < m by omega)
  have := Int.emod_nonneg (xgcdLoop (a % m + 1) m (a % m) 0 1).2 (show (m : Int) ≠ 0 by omega)
  simp only [xgcd]
  omega

/-! ## decompose and a round (42_primality.md R142) -/

/-- The loop keeps `2^s * d` and ends at an odd `d`. -/
theorem decomposeLoop_spec {fuel s d : Nat} (hd : 0 < d) (hf : d ≤ fuel) :
    2 ^ s * d = 2 ^ (decomposeLoop fuel s d).1 * (decomposeLoop fuel s d).2 ∧ (decomposeLoop fuel s d).2 % 2 = 1 := by
  induction fuel generalizing s d with
  | zero => omega
  | succ fuel ih =>
    rw [decomposeLoop]
    split
    · next even =>
      have half : 2 ^ s * d = 2 ^ (s + 1) * (d / 2) := by
        rw [pow_succ, Nat.mul_assoc, Nat.mul_div_cancel' (Nat.dvd_of_mod_eq_zero even)]
      rw [half]
      exact ih (by omega) (by omega)
    · exact ⟨rfl, by omega⟩

theorem decompose_spec {n : Nat} (h : 2 ≤ n) :
    n - 1 = 2 ^ (decompose n).1 * (decompose n).2 ∧ (decompose n).2 % 2 = 1 := by
  have := decomposeLoop_spec (fuel := n) (s := 0) (d := n - 1) (by omega) (by omega)
  simpa [decompose] using this

theorem one_le_decompose_fst {n : Nat} (h : 2 ≤ n) (odd : n % 2 = 1) : 1 ≤ (decompose n).1 := by
  obtain ⟨split, hd⟩ := decompose_spec h
  by_contra hs
  simp only [show (decompose n).1 = 0 by omega, pow_zero, Nat.one_mul] at split
  omega

/-- The squarings pass when one of them meets `n - 1`. -/
theorem squaringsPass_iff (n k x : Nat) :
    squaringsPass n k x = true ↔ ∃ r, r < k ∧ x ^ 2 ^ (r + 1) % n = n - 1 := by
  induction k generalizing x with
  | zero => simp [squaringsPass]
  | succ k ih =>
    have later (r : Nat) : (x * x % n) ^ 2 ^ (r + 1) % n = x ^ 2 ^ (r + 1 + 1) % n := by
      rw [← Nat.pow_mod, ← pow_two, ← pow_mul, ← pow_succ']
    rw [squaringsPass]
    split
    · next now => exact ⟨fun _ => ⟨0, by omega, by rw [← now, zero_add, pow_one, pow_two]⟩, fun _ => rfl⟩
    · next now =>
      rw [ih]
      constructor
      · rintro ⟨r, hr, h⟩
        exact ⟨r + 1, by omega, by rw [← later, h]⟩
      · rintro ⟨r, hr, h⟩
        cases r with
        | zero => exact absurd (by rw [← h, zero_add, pow_one, pow_two]) now
        | succ r => exact ⟨r, by omega, by rw [later, h]⟩

/-- A round is the strong test to the base `a`. -/
theorem mrRound_iff {n : Nat} (a : Nat) (h : 2 ≤ n) (hs : 1 ≤ (decompose n).1) :
    mrRound n a = true ↔ a ^ (decompose n).2 % n = 1 ∨
      ∃ r, r < (decompose n).1 ∧ a ^ (2 ^ r * (decompose n).2) % n = n - 1 := by
  have power (r : Nat) : (a ^ (decompose n).2 % n) ^ 2 ^ r % n = a ^ (2 ^ r * (decompose n).2) % n := by
    rw [← Nat.pow_mod, ← pow_mul, Nat.mul_comm]
  have round : mrRound n a = true ↔ (a ^ (decompose n).2 % n = 1 ∨ a ^ (decompose n).2 % n = n - 1) ∨
      squaringsPass n ((decompose n).1 - 1) (a ^ (decompose n).2 % n) = true := by
    simp only [mrRound, modexp_eq_pow_mod _ _ h, ite_eq_left_iff, not_or]
    tauto
  rw [round, squaringsPass_iff, or_assoc]
  refine or_congr_right ⟨?_, ?_⟩
  · rintro (h1 | ⟨r, hr, h1⟩)
    · exact ⟨0, by omega, by simpa using h1⟩
    · exact ⟨r + 1, by omega, by rw [← power, h1]⟩
  · rintro ⟨r, hr, h1⟩
    cases r with
    | zero => exact .inl (by simpa using h1)
    | succ r => exact .inr ⟨r, by omega, by rw [power, h1]⟩

/-! ## Primes pass (42_primality.md R146) -/

/-- Without zero divisors, the square roots of 1 that lead down from `y^(2^k) = 1` are 1 until one is `-1`. -/
theorem eq_one_or_exists_pow_eq_neg_one {R : Type*} [Ring R] [NoZeroDivisors R] {y : R} {k : Nat}
    (h : y ^ 2 ^ k = 1) : y = 1 ∨ ∃ r, r < k ∧ y ^ 2 ^ r = -1 := by
  induction k with
  | zero => exact .inl (by simpa using h)
  | succ k ih =>
    rw [pow_succ, pow_mul, pow_two, mul_self_eq_one_iff] at h
    rcases h with h | h
    · exact (ih h).imp_right fun ⟨r, hr, e⟩ => ⟨r, by omega, e⟩
    · exact .inr ⟨k, by omega, h⟩

/-- Every round passes on an odd prime, by Fermat's little theorem. -/
theorem mrRound_of_prime {n a : Nat} (hp : n.Prime) (odd : n % 2 = 1) (ha : 0 < a) (han : a < n) :
    mrRound n a = true := by
  have : Fact n.Prime := ⟨hp⟩
  have h2 := hp.two_le
  obtain ⟨split, -⟩ := decompose_spec h2
  have ne_zero : (a : ZMod n) ≠ 0 := by
    rw [Ne, ZMod.natCast_eq_zero_iff]; exact Nat.not_dvd_of_pos_of_lt ha han
  have fermat : ((a : ZMod n) ^ (decompose n).2) ^ 2 ^ (decompose n).1 = 1 := by
    rw [← pow_mul, Nat.mul_comm, ← split, ZMod.pow_card_sub_one_eq_one ne_zero]
  have toNat {e v : Nat} (hv : v < n) (h : (a : ZMod n) ^ e = v) : a ^ e % n = v := by
    have := (ZMod.natCast_eq_natCast_iff' (a ^ e) v n).1 (by rw [Nat.cast_pow, h])
    rwa [Nat.mod_eq_of_lt hv] at this
  rw [mrRound_iff a h2 (one_le_decompose_fst h2 odd)]
  rcases eq_one_or_exists_pow_eq_neg_one fermat with h | ⟨r, hr, h⟩
  · exact .inl (toNat (by omega) (by simpa using h))
  · refine .inr ⟨r, hr, toNat (by omega) ?_⟩
    rw [Nat.mul_comm, pow_mul, h, Nat.cast_sub (by omega)]
    simp

theorem baseInRange_mem {n : Nat} (a : Nat) (h : 4 ≤ n) : 2 ≤ baseInRange n a ∧ baseInRange n a ≤ n - 2 := by
  unfold baseInRange
  split
  · assumption
  · have := Nat.mod_lt a (show 0 < n - 3 by omega)
    omega

/-- A draw for `n` is a base for it, listed or free. -/
theorem BaseSource.draw_mem {n : Nat} (b : BaseSource) (h : 4 ≤ n) : 2 ≤ (b.draw n).1 ∧ (b.draw n).1 ≤ n - 2 := by
  unfold BaseSource.draw
  split <;> exact baseInRange_mem _ h

theorem mrTest_of_rounds {n : Nat} (h : 4 ≤ n) (pass : ∀ a, 2 ≤ a → a ≤ n - 2 → mrRound n a = true) (k : Nat)
    (b : BaseSource) : (mrTest n k b).1 = true := by
  induction k generalizing b with
  | zero => rfl
  | succ k ih =>
    obtain ⟨lo, hi⟩ := b.draw_mem h
    rw [mrTest, if_pos (pass _ lo hi)]
    exact ih _

/-- A prime outside the ROM has no factor in it. -/
theorem smallFactor_of_prime {n : Nat} (hp : n.Prime) (h : n ∉ smallPrimes) : smallFactor n = false := by
  simp only [smallFactor, List.any_eq_false, beq_iff_eq]
  intro q hq hdvd
  rcases (Nat.dvd_prime hp).1 (Nat.dvd_of_mod_eq_zero hdvd) with rfl | rfl
  · exact absurd hq (by decide)
  · exact h hq

/-- The ROM's first two primes settle the verdict below 5 and on even numbers. -/
theorem five_le_and_odd_of_smallFactor {n : Nat} (h2 : 2 ≤ n) (h : n ∉ smallPrimes) (hf : smallFactor n = false) :
    5 ≤ n ∧ n % 2 = 1 := by
  simp only [smallFactor, List.any_eq_false, beq_iff_eq] at hf
  have h_two := hf 2 (by decide)
  have : n ≠ 3 := by rintro rfl; exact h (by decide)
  omega

/-- 42_primality.md R146, 1. -/
theorem isPrimeFn_of_prime {n : Nat} (hp : n.Prime) (b : BaseSource) : (isPrimeFn n b).1 = true := by
  have h2 := hp.two_le
  rw [isPrimeFn, if_neg (by omega)]
  split
  · rfl
  · next small =>
    have trial := smallFactor_of_prime hp small
    obtain ⟨h5, odd⟩ := five_le_and_odd_of_smallFactor h2 small trial
    rw [trial, if_neg Bool.false_ne_true]
    exact mrTest_of_rounds (by omega) (fun a lo hi => mrRound_of_prime hp odd (by omega) (by omega)) _ _

/-- What passes the test passes its trial division (42_primality.md R143). -/
theorem passesTrial_of_isPrimeFn {n : Nat} {b : BaseSource} (h : (isPrimeFn n b).1 = true) : PassesTrial n := by
  unfold isPrimeFn at h
  unfold PassesTrial
  by_cases small : n ∈ smallPrimes
  · exact .inl small
  · right
    cases factor : smallFactor n
    · rfl
    · simp [small, factor] at h

end Sys2Proof.Machine
end

section
/-! SUPPORT. What a transaction, an engine step and a step can do, each said once, for the frames and the invariant. -/

namespace Sys2Proof.Machine

/-! ## Transactions -/

/-- What the transaction can do to `s`: one case for each write that does something, and one for all that do nothing. -/
inductive Txn.Outcome (s : State) : Txn → State → Prop where
  | nothing (x : Txn) : Txn.Outcome s x s
  | setIe (v : Word) : Txn.Outcome s (.write 0x008 4 0xF v) (s.setIe (v.getLsbD 0))
  | abort (v : Word) (busy : s.busy = true) :
      Txn.Outcome s (.write 0x008 4 0xF v) ((s.setIe (v.getLsbD 0)).finish .aborted)
  | status (v : Word) : Txn.Outcome s (.write 0x00C 4 0xF v) (writeStatus v s)
  | collide (off : Offset) (v : Word) (busy : s.busy = true) (taken : (Txn.write off 4 0xF v).accepted = true)
      (place : off = 0x010 ∨ ∃ i j, j < limbCount s.params ∧ target off = .limb i j) :
      Txn.Outcome s (.write off 4 0xF v) s.collide
  | illegal (w : Word) (busy : s.busy = false) : Txn.Outcome s (.write 0x010 4 0xF w) (s.finish .illegal)
  | accept (w : Word) (i : Instr) (busy : s.busy = false) (legal : decode w = some i) :
      Txn.Outcome s (.write 0x010 4 0xF w) (s.accept w)
  | limb (off : Offset) (v : Word) (i : Reg) (j : Nat) (busy : s.busy = false) (place : target off = .limb i j)
      (present : j < limbCount s.params) :
      Txn.Outcome s (.write off 4 0xF v) (s.writeRegs [(i, setLimb (s.X.get i) j v)])

/-- Every transaction has one of these outcomes. -/
theorem Txn.outcome (x : Txn) (s : State) : x.Outcome s (x.effect s) := by
  by_cases taken : x.accepted = true
  · rcases x.effect_cases s with e | ⟨v, rfl, e⟩ | ⟨v, rfl, e⟩ | ⟨w, rfl, e⟩ | ⟨off, v, i, j, rfl, place, e⟩ <;> rw [e]
    · exact .nothing x
    · rcases writeCtrl_cases v s with ⟨-, busy, e⟩ | ⟨-, e⟩ <;> rw [e]
      · exact .abort v busy
      · exact .setIe v
    · exact .status v
    · rcases writeCmd_cases w s with ⟨busy, e⟩ | ⟨busy, -, e⟩ | ⟨busy, ⟨i, legal⟩, e⟩ <;> rw [e]
      · exact .collide _ w busy taken (.inl rfl)
      · exact .illegal w busy
      · exact .accept w i busy legal
    · rcases writeLimb_cases i j v s with ⟨-, e⟩ | ⟨present, busy, e⟩ | ⟨present, busy, e⟩ <;> rw [e]
      · exact .nothing _
      · exact .collide off v busy taken (.inr ⟨i, j, present, place⟩)
      · exact .limb off v i j busy place present
  · have e : x.effect s = s := by cases x <;> simp [Txn.effect, taken]
    rw [e]
    exact .nothing x

section
variable {s t : State} {x : Txn}

theorem Txn.Outcome.prime_eq (h : x.Outcome s t) : t.prime = s.prime := by
  cases h <;> rfl

theorem Txn.Outcome.ie_cases (h : x.Outcome s t) :
    t.ie = s.ie ∨ ∃ v, x = .write 0x008 4 0xF v ∧ t.ie = v.getLsbD 0 := by
  cases h with
  | setIe v | abort v busy => exact .inr ⟨v, rfl, rfl⟩
  | _ => exact .inl rfl

theorem Txn.Outcome.coll_cases (h : x.Outcome s t) :
    t.coll = s.coll ∨
    (s.busy = true ∧ t = s.collide ∧ x.answer s = .written ∧ ∃ off v, x = .write off 4 0xF v ∧
      (off = 0x010 ∨ ∃ i j, j < limbCount s.params ∧ target off = .limb i j)) ∨
    (t.coll = false ∧ ∃ v, x = .write 0x00C 4 0xF v ∧ v.getLsbD 3 = true) := by
  cases h with
  | status v =>
    by_cases hv : v.getLsbD 3 = true
    · exact .inr (.inr ⟨if_pos hv, v, rfl, hv⟩)
    · exact .inl (if_neg hv)
  | collide off v busy taken place =>
    exact .inr (.inl ⟨busy, rfl, if_pos taken, off, v, rfl, place⟩)
  | _ => exact .inl rfl

theorem Txn.Outcome.X_cases (h : x.Outcome s t) :
    t.X = s.X ∨
    (s.busy = false ∧ ∃ off v i j, x = .write off 4 0xF v ∧ target off = .limb i j ∧ j < limbCount s.params ∧
      ∀ r, r ≠ i → t.X.get r = s.X.get r) := by
  cases h with
  | limb off v i j busy place present =>
    exact .inr ⟨busy, off, v, i, j, rfl, place, present, fun r hr => by simp [RegFile.get_set_ne _ _ hr]⟩
  | _ => exact .inl rfl

end

/-! ## Engine steps -/

section
variable {s t : State} (h : EngineKept s t)
include h

theorem EngineKept.ie_eq : t.ie = s.ie := h.1
theorem EngineKept.coll_eq : t.coll = s.coll := h.2.1
theorem EngineKept.cmd_eq : t.cmd = s.cmd := h.2.2.1
theorem EngineKept.snapshot_eq : t.A = s.A ∧ t.B = s.B ∧ t.C = s.C := ⟨h.2.2.2.1, h.2.2.2.2.1, h.2.2.2.2.2.1⟩
theorem EngineKept.params_eq : t.params = s.params := h.2.2.2.2.2.2.1
theorem EngineKept.rstN_eq : t.rstN = s.rstN := h.2.2.2.2.2.2.2.1

end

/-- What an engine step of `i` may change: a completion or a step of the internal state, of which the host sees nothing. -/
structure ExecFrame (i : Instr) (s t : State) : Prop where
  /-- 10_state.md R21 -/
  regs : OtherRegsKept (dests i) s t
  kept : EngineKept s t
  writes : t.X ≠ s.X → Completed .ok t
  /-- 10_state.md R31 -/
  prime : t.prime ≠ s.prime → ∃ rs1, i = .isprime rs1
  /-- 43_prime_generator.md R165 -/
  entropy : t.entropy ≠ s.entropy → s.fsm = .gpDraw
  /-- 42_primality.md R148 -/
  bases : t.bases ≠ s.bases → s.fsm = .gpTest ∨ ∃ rs1, i = .isprime rs1
  /-- 40_control.md R110 -/
  ends : (∃ c, Completed c t) ∨ t.fsm ≠ .idle ∧ t.fsm ≠ .start ∧ HostVisibleKept s t

theorem execFrame_finish (i : Instr) (c : ErrCode) (s : State) : ExecFrame i s (s.finish c) where
  regs _ _ := rfl
  kept := engineKept_finish c s
  writes h := absurd rfl h
  prime h := absurd rfl h
  entropy h := absurd rfl h
  bases h := absurd rfl h
  ends := .inl ⟨c, completed_finish c s⟩

theorem execFrame_completeOk {i : Instr} {ws : List (Reg × Nat)} (s : State) (h : ws.map Prod.fst = dests i) :
    ExecFrame i s (completeOk ws s) where
  regs r hr := completeOk_get ws s r (h ▸ hr)
  kept := engineKept_completeOk ws s
  writes _ := completed_finish .ok _
  prime h := absurd rfl h
  entropy h := absurd rfl h
  bases h := absurd rfl h
  ends := .inl ⟨.ok, completed_finish .ok _⟩

/-- A step that writes internal state only, and ends neither in IDLE nor in START. -/
theorem execFrame_internal (i : Instr) (s : State) {f : Fsm} {ph : Phase} {g c kt kp kq : Nat} (idle : f ≠ .idle)
    (start : f ≠ .start) :
    ExecFrame i s { s with fsm := f, gbits := g, cand := c, phase := ph, kt := kt, kp := kp, kq := kq } where
  regs _ _ := rfl
  kept := engineKept_refl s
  writes h := absurd rfl h
  prime h := absurd rfl h
  entropy h := absurd rfl h
  bases h := absurd rfl h
  ends := .inr ⟨idle, start, ⟨rfl, rfl, rfl, rfl, rfl, rfl, rfl⟩⟩

theorem execFrame_candidateDraw (i : Instr) {s : State} (hf : s.fsm = .gpDraw) : ExecFrame i s (candidateDraw s) := by
  rcases candidateDraw_cases s with ⟨-, e⟩ | ⟨-, e⟩ <;> rw [e]
  · exact {
      execFrame_internal i s (by decide) (by decide) with
      entropy := fun _ => hf }
  · exact execFrame_internal i s (by simp [hf]) (by simp [hf])

/-- In GP_TEST a step may first take base draws. -/
theorem ExecFrame.of_setBases {i : Instr} {s t : State} {b : BaseSource} (hf : s.fsm = .gpTest)
    (h : ExecFrame i (s.setBases b) t) : ExecFrame i s t :=
  { h with bases := fun _ => .inl hf }

theorem execFrame_candidateTest {i : Instr} {s : State} {passed : State → State} (hf : s.fsm = .gpTest)
    (h : ∀ b, ExecFrame i (s.setBases b) (passed (s.setBases b))) : ExecFrame i s (candidateTest passed s) := by
  rcases candidateTest_cases passed s with ⟨-, e⟩ | ⟨-, e⟩ <;> rw [e] <;> apply ExecFrame.of_setBases hf
  · exact h _
  · exact execFrame_internal i (s.setBases _) (by simp [hf]) (by simp [hf])

theorem execFrame_modexpStart (rd rs1 rs2 rs3 : Reg) (s : State) :
    ExecFrame (.modexp rd rs1 rs2 rs3) s (modexpStart rd s) := by
  rcases modexpStart_cases rd s with ⟨-, e⟩ | ⟨-, e⟩ <;> rw [e]
  · exact execFrame_finish _ _ s
  · exact execFrame_completeOk s rfl

theorem execFrame_modinvStart (rd rs1 rs2 : Reg) (s : State) : ExecFrame (.modinv rd rs1 rs2) s (modinvStart rd s) := by
  rcases modinvStart_cases rd s with ⟨-, e⟩ | ⟨-, -, e⟩ | ⟨-, -, e⟩ <;> rw [e]
  · exact execFrame_finish _ _ s
  · exact execFrame_finish _ _ s
  · exact execFrame_completeOk s rfl

theorem execFrame_isprimeStart (rs1 : Reg) (s : State) : ExecFrame (.isprime rs1) s (isprimeStart s) :=
  { execFrame_completeOk s rfl with
    prime := fun _ => ⟨rs1, rfl⟩
    bases := fun _ => .inr ⟨rs1, rfl⟩
    ends := .inl ⟨.ok, completed_finish .ok _⟩ }

theorem execFrame_genprimeStart (rd rs1 : Reg) (s : State) : ExecFrame (.genprime rd rs1) s (genprimeStart s) := by
  rcases genprimeStart_cases s with ⟨-, e⟩ | ⟨-, -, e⟩ <;> rw [e]
  · exact execFrame_finish _ _ s
  · exact execFrame_internal _ s (by decide) (by decide)

theorem execFrame_keygenStart (rd rs1 : Reg) (s : State) : ExecFrame (.keygen rd rs1) s (keygenStart s) := by
  rcases keygenStart_cases s with ⟨-, e⟩ | ⟨-, -, e⟩ <;> rw [e]
  · exact execFrame_finish _ _ s
  · exact execFrame_internal _ s (by decide) (by decide)

theorem execFrame_keygenPassed (rd rs1 : Reg) (s : State) : ExecFrame (.keygen rd rs1) s (keygenPassed s) := by
  rcases keygenPassed_cases s with ⟨-, e⟩ | ⟨-, e⟩ <;> rw [e] <;>
    exact execFrame_internal _ s (by decide) (by decide)

theorem execFrame_deriveKey (rd rs1 : Reg) (s : State) : ExecFrame (.keygen rd rs1) s (deriveKey rd s) := by
  rcases deriveKey_cases rd s with ⟨-, e⟩ | ⟨-, e⟩ <;> rw [e]
  · exact execFrame_completeOk s rfl
  · exact execFrame_internal _ s (by decide) (by decide)

/-- Every engine step of every command keeps to the frame. -/
theorem execFrame_of_next {i : Instr} {s t : State} (h : exec i s = .next t) : ExecFrame i s t := by
  cases i with
  | nop =>
    obtain ⟨-, rfl⟩ := exec_nop_next.1 h
    exact execFrame_completeOk s rfl
  | modexp rd rs1 rs2 rs3 =>
    obtain ⟨-, rfl⟩ := exec_modexp_next.1 h
    exact execFrame_modexpStart rd rs1 rs2 rs3 s
  | modinv rd rs1 rs2 =>
    obtain ⟨-, rfl⟩ := exec_modinv_next.1 h
    exact execFrame_modinvStart rd rs1 rs2 s
  | isprime rs1 =>
    obtain ⟨-, rfl⟩ := exec_isprime_next.1 h
    exact execFrame_isprimeStart rs1 s
  | genprime rd rs1 =>
    rcases exec_genprime_next.1 h with ⟨-, rfl⟩ | ⟨hf, rfl⟩ | ⟨hf, rfl⟩
    · exact execFrame_genprimeStart rd rs1 s
    · exact execFrame_candidateDraw _ hf
    · exact execFrame_candidateTest hf fun _ => execFrame_completeOk _ rfl
  | keygen rd rs1 =>
    rcases exec_keygen_next.1 h with ⟨-, rfl⟩ | ⟨hf, rfl⟩ | ⟨hf, rfl⟩ | ⟨-, rfl⟩
    · exact execFrame_keygenStart rd rs1 s
    · exact execFrame_candidateDraw _ hf
    · exact execFrame_candidateTest hf fun _ => execFrame_keygenPassed rd rs1 _
    · exact execFrame_deriveKey rd rs1 s

/-! ## Steps -/

/-- What a step from `s` can answer, by the event it takes; `rest` is what the inbox holds afterwards. -/
inductive StepOutcome (s : State) : State → Prop where
  | bus (x : Txn) (rest : List Event) (t : State) (inbox : s.inbox = .bus x :: rest) (rst : s.rstN = true)
      (outcome : x.Outcome (s.setInbox rest) t) : StepOutcome s (t.respond (x.answer (s.setInbox rest)))
  | hold (rest : List Event) : StepOutcome s (s.setInbox rest)
  | engine (rest : List Event) (i : Instr) (t : State) (inbox : s.inbox = [] ∨ ∃ rest, s.inbox = .engine :: rest)
      (rst : s.rstN = true) (busy : s.fsm ≠ .idle) (latched : decode s.cmd = some i)
      (runs : exec i (s.setInbox rest) = .next t) : StepOutcome s t
  | resetAssert (rest : List Event) (inbox : s.inbox = .resetAssert :: rest) :
      StepOutcome s (s.setInbox rest).assertReset
  | resetRelease (rest : List Event) : StepOutcome s (s.setInbox rest).releaseReset
  | entropy (rest : List Event) (w : Word) : StepOutcome s ((s.setInbox rest).offerEntropy w)

/-- Delivering an event taken from the inbox is a step's outcome. -/
theorem stepOutcome_of_deliver {s t : State} {e : Event} {rest : List Event}
    (inbox : s.inbox = e :: rest ∨ s.inbox = [] ∧ e = .engine) (h : deliver e (s.setInbox rest) = .next t) :
    StepOutcome s t := by
  rcases deliver_cases h with ⟨x, rfl, rst, rfl⟩ | ⟨rfl, rfl⟩ | ⟨rfl, rst, busy, i, latched, runs⟩ | ⟨rfl, rfl⟩ |
    ⟨rfl, rfl⟩ | ⟨w, rfl, rfl⟩
  · exact .bus x rest _ (by simpa using inbox) rst (x.outcome _)
  · exact .hold rest
  · exact .engine rest i t (inbox.symm.imp And.left fun h => ⟨rest, h⟩) rst busy latched runs
  · exact .resetAssert rest (by simpa using inbox)
  · exact .resetRelease rest
  · exact .entropy rest w

theorem stepOutcome_of_next {s t : State} (h : step s = .next t) : StepOutcome s t := by
  rcases step_cases s with ⟨inbox, e⟩ | ⟨e, rest, inbox, he⟩
  · have same : s.setInbox [] = s := by rw [← inbox]; rfl
    exact stepOutcome_of_deliver (rest := []) (.inr ⟨inbox, rfl⟩) (by rw [same, ← e, h])
  · exact stepOutcome_of_deliver (.inl inbox) (he ▸ h)

end Sys2Proof.Machine
end

section
/-! PROOFS. The rules of 10_state.md on single items of the state: reset, STATUS, and what may change each item. -/

namespace Sys2Proof.Machine

/-! ## Reset and STATUS -/

/-- The three fields of CONFIG do not overlap (10_state.md R24). -/
theorem configWord_toNat (p : Params) : (configWord p).toNat = 8 * 2 ^ 24 + 20 * 2 ^ 16 + p.width % 2 ^ 16 := by
  have hw : p.width % 2 ^ 16 < 2 ^ 16 := Nat.mod_lt _ (by norm_num)
  have constants : (BitVec.ofNat 32 nRegs <<< 24 ||| BitVec.ofNat 32 mrRounds <<< 16).toNat = 2 ^ 16 * 2068 := by decide
  rw [configWord, BitVec.toNat_or, constants, BitVec.toNat_ofNat, Nat.mod_eq_of_lt (a := p.width % 2 ^ 16) (by omega),
    ← Nat.two_pow_add_eq_or_of_lt hw]
  rfl

/-- Settles O1: the assertion of `rst_n` puts the block at `Block.reset`, whatever it was doing. -/
theorem resetSetsEveryItem : Obligations.ResetSetsEveryItem := by
  intro s
  exact ⟨s.assertReset, rfl, RegFile.get_zero, rfl, configWord_toNat s.params, rfl, rfl, rfl, rfl, rfl, rfl, rfl, rfl, rfl,
    rfl, rfl, rfl, rfl, rfl, rfl, rfl, rfl, rfl, rfl, rfl⟩

/-- Settles O15: `writeStatus` writes `DONE` and `COLL` only, and `irq` needs `DONE`. -/
theorem statusWriteClearsByOne : Obligations.StatusWriteClearsByOne := by
  intro s v hr
  have done : (writeStatus v s).done = (s.done && !v.getLsbD 1) := by
    simp only [writeStatus, State.clearDone_done]
    cases v.getLsbD 1 <;> simp
  have coll : (writeStatus v s).coll = (s.coll && !v.getLsbD 3) := by
    simp only [writeStatus, State.clearColl_coll]
    cases v.getLsbD 3 <;> simp
  refine ⟨writeStatus v s, ?_, rfl, done, coll, fun h => ?_⟩
  · rw [deliver_write v hr (by decide), busWrite_status]
    rfl
  · simp [Block.irq, done, h]

/-! ## What changes an item -/

/-- Settles O43: the frame of `exec`. -/
theorem engineStepFrame : Obligations.EngineStepFrame := by
  intro i s t h
  have frame := execFrame_of_next h
  exact ⟨frame.regs, frame.kept, frame.writes, frame.prime, frame.entropy, frame.bases⟩

/-- Settles O46: the bus never writes `PRIME`, and of the commands only ISPRIME does. -/
theorem onlyIsprimeChangesPrime : Obligations.OnlyIsprimeChangesPrime := by
  intro s t h changed
  cases stepOutcome_of_next h with
  | bus x rest u inbox rst outcome => exact absurd outcome.prime_eq changed
  | engine rest i _ inbox rst busy latched runs =>
    obtain ⟨rs1, rfl⟩ := (execFrame_of_next runs).prime changed
    obtain ⟨start, rfl⟩ := exec_isprime_next.1 runs
    exact .inl ⟨inbox, start, ⟨rs1, latched⟩, completed_finish .ok _, rfl⟩
  | resetAssert rest inbox => exact .inr ⟨⟨rest, inbox⟩, rfl⟩
  | hold | resetRelease | entropy => exact absurd rfl changed

/-- Settles O47: on the bus only CTRL reaches `IE`, and no engine step does. -/
theorem onlyCtrlWriteOrResetChangesIe : Obligations.OnlyCtrlWriteOrResetChangesIe := by
  intro s t h changed
  cases stepOutcome_of_next h with
  | bus x rest u inbox rst outcome =>
    rcases outcome.ie_cases with same | ⟨v, rfl, e⟩
    · exact absurd same changed
    · exact .inl ⟨v, rest, inbox, e⟩
  | engine rest i _ inbox rst busy latched runs => exact absurd (execFrame_of_next runs).kept.ie_eq changed
  | resetAssert rest inbox => exact .inr ⟨⟨rest, inbox⟩, rfl⟩
  | hold | resetRelease | entropy => exact absurd rfl changed

/-- Settles O48: a write sets `COLL` only by the collision, and clears it only by bit 3 of STATUS. -/
theorem collisionIsTheOnlySourceOfColl : Obligations.CollisionIsTheOnlySourceOfColl := by
  intro s t h changed
  cases stepOutcome_of_next h with
  | bus x rest u inbox rst outcome =>
    rcases outcome.coll_cases with same | ⟨busy, rfl, answer, off, v, rfl, place⟩ | ⟨clear, v, rfl, bit⟩
    · exact absurd same changed
    · exact .inl ⟨rfl, busy, off, v, rest, inbox, place, by rw [answer]; rfl⟩
    · exact .inr ⟨clear, .inl ⟨v, rest, inbox, bit⟩⟩
  | engine rest i _ inbox rst busy latched runs => exact absurd (execFrame_of_next runs).kept.coll_eq changed
  | resetAssert rest inbox => exact .inr ⟨rfl, .inr ⟨rest, inbox⟩⟩
  | hold | resetRelease | entropy => exact absurd rfl changed

/-- Settles O49: the bus writes the register of the limb only, and an engine step the command's destinations only. -/
theorem operandRegistersChangeOnlyAsListed : Obligations.OperandRegistersChangeOnlyAsListed := by
  intro s t r h changed
  cases stepOutcome_of_next h with
  | bus x rest u inbox rst outcome =>
    rcases outcome.X_cases with same | ⟨busy, off, v, i, j, rfl, place, present, others⟩
    · exact absurd (congrArg (·.get r) same) changed
    · obtain rfl : r = i := by_contra fun ne => changed (others r ne)
      exact .inl ⟨busy, off, v, rest, j, inbox, place, present⟩
  | engine rest i _ inbox rst busy latched runs =>
    have frame := execFrame_of_next runs
    have dest : r ∈ dests i := by_contra fun ne => changed (frame.regs r ne)
    exact .inr (.inl ⟨inbox, ⟨i, latched, dest⟩, frame.writes fun same => changed (congrArg (·.get r) same)⟩)
  | resetAssert rest inbox => exact .inr (.inr ⟨⟨rest, inbox⟩, RegFile.get_zero r⟩)
  | hold | resetRelease | entropy => exact absurd rfl changed

/-! ## The latch in IDLE -/

section
variable (s : State) (cmd : Word) (a b c : Nat)

@[simp] theorem State.withLatch_busy : (s.withLatch cmd a b c).busy = s.busy := rfl
@[simp] theorem State.withLatch_fsm : (s.withLatch cmd a b c).fsm = s.fsm := rfl
@[simp] theorem State.withLatch_params : (s.withLatch cmd a b c).params = s.params := rfl
@[simp] theorem State.withLatch_rstN : (s.withLatch cmd a b c).rstN = s.rstN := rfl
@[simp] theorem State.withLatch_setIe (v : Bool) :
    (s.withLatch cmd a b c).setIe v = (s.setIe v).withLatch cmd a b c := rfl

/-- With no command running the abort bit of CTRL does nothing. -/
theorem writeCtrl_of_not_busy (v : Word) (hb : s.busy = false) : writeCtrl v s = s.setIe (v.getLsbD 0) := by
  rcases writeCtrl_cases v s with ⟨-, busy, -⟩ | ⟨-, e⟩
  · simp [hb] at busy
  · exact e

/-- No read shows the latch. -/
theorem answer_withLatch (x : Txn) : x.answer (s.withLatch cmd a b c) = x.answer s := by
  cases x <;> rfl

/-- An aligned write to an idle block does the same whatever the latch holds, but that an accept overwrites the latch. -/
theorem busWrite_withLatch (off : Offset) (v : Word) (hb : s.busy = false) :
    ∃ cmd' a' b' c', busWrite off v (s.withLatch cmd a b c) = (busWrite off v s).withLatch cmd' a' b' c' := by
  unfold busWrite
  cases target off with
  | id | config | status | unmapped => exact ⟨cmd, a, b, c, rfl⟩
  | ctrl => exact ⟨cmd, a, b, c, by simp [writeCtrl_of_not_busy, hb]⟩
  | cmd =>
    cases hd : decode v with
    | none => exact ⟨cmd, a, b, c, by simp only [writeCmd, State.withLatch_busy, hb, hd]; rfl⟩
    | some i =>
      exact ⟨v, s.X.get (rs1Field v), s.X.get (rs2Field v), s.X.get (rs3Field v),
        by simp only [writeCmd, State.withLatch_busy, hb, hd]; rfl⟩
  | limb i j =>
    refine ⟨cmd, a, b, c, ?_⟩
    by_cases present : j < limbCount s.params
    · simp only [writeLimb, State.withLatch_params, State.withLatch_busy, hb, if_pos present]
      rfl
    · simp only [writeLimb, State.withLatch_params, present, if_false]

/-- The same of every transaction. -/
theorem effect_withLatch (x : Txn) (hb : s.busy = false) :
    ∃ cmd' a' b' c', x.effect (s.withLatch cmd a b c) = (x.effect s).withLatch cmd' a' b' c' := by
  cases x with
  | read off size => exact ⟨cmd, a, b, c, rfl⟩
  | write off size strb v =>
    by_cases taken : (Txn.write off size strb v).accepted = true
    · simp only [Txn.effect, if_pos taken]
      exact busWrite_withLatch s cmd a b c off v hb
    · simp only [Txn.effect, if_neg taken]
      exact ⟨cmd, a, b, c, rfl⟩

end

/-- Settles O52: only the engine reads the latch, and it takes no step in IDLE. -/
theorem idleLatchIsNotObservable : Obligations.IdleLatchIsNotObservable := by
  intro s e cmd a b c idle hb
  cases e with
  | bus x =>
    obtain ⟨cmd', a', b', c', e⟩ := effect_withLatch s cmd a b c x hb
    refine ⟨cmd', a', b', c', ?_⟩
    cases hr : s.rstN
    · simp [deliver, hr, mapNext]
    · simp only [deliver, State.withLatch_rstN, hr, hostStep, e, answer_withLatch]
      rfl
  | engine =>
    exact ⟨cmd, a, b, c, by simp [deliver, engineStep_idle, idle, mapNext]⟩
  | resetAssert => exact ⟨0, 0, 0, 0, rfl⟩
  | resetRelease | entropy w => exact ⟨cmd, a, b, c, rfl⟩

end Sys2Proof.Machine
end

section
/-! PROOFS. The invariant of the machine is kept: by each operation on the state, then by each command, then by a step. -/

namespace Sys2Proof.Machine

/-! ## The walk of the candidates (43_prime_generator.md R161, R163) -/

/-- A drawn candidate is odd and has exactly `bits` bits (43_prime_generator.md R160). -/
theorem candidateOf_bounds {bits r : Nat} (hb : 1 ≤ bits) (hr : r < 2 ^ bits) :
    candidateOf bits r % 2 = 1 ∧ 2 ^ (bits - 1) ≤ candidateOf bits r ∧ candidateOf bits r < 2 ^ bits := by
  have top : 1 <<< (bits - 1) = 2 ^ (bits - 1) := by rw [Nat.shiftLeft_eq, Nat.one_mul]
  have top_lt : 2 ^ (bits - 1) < 2 ^ bits := Nat.pow_lt_pow_right (by norm_num) (by omega)
  have one_lt : 1 < 2 ^ bits := Nat.one_lt_two_pow (by omega)
  unfold candidateOf
  rw [top]
  refine ⟨?_, ?_, Nat.or_lt_two_pow (Nat.or_lt_two_pow hr top_lt) one_lt⟩
  · simp
  · exact Nat.right_le_or.trans Nat.left_le_or

/-- The walk starts below a prime, by Bertrand's postulate. -/
theorem walking_candidateOf {bits r : Nat} (hb : 1 ≤ bits) (hr : r < 2 ^ bits) : Walking bits (candidateOf bits r) := by
  obtain ⟨odd, lo, hi⟩ := candidateOf_bounds hb hr
  obtain ⟨P, prime, lt, le⟩ := Nat.exists_prime_lt_and_le_two_mul (candidateOf bits r) (by omega)
  exact ⟨odd, lo, P, prime, lt.le, by rw [pow_succ]; omega⟩

theorem walking_drawn (s : State) (hb : 1 ≤ s.gbits) : Walking s.gbits s.takeCandidate.cand :=
  walking_candidateOf hb (Nat.mod_lt _ (by positivity))

/-- A candidate that fails is no prime, so the prime ahead of the walk is at least two above it. -/
theorem Walking.add_two {bits c : Nat} {b : BaseSource} (h : Walking bits c) (hb : 2 ≤ bits)
    (fails : (isPrimeFn c b).1 = false) : Walking bits (c + 2) := by
  obtain ⟨odd, lo, P, prime, le, lt⟩ := h
  have two_le : 2 ≤ 2 ^ (bits - 1) := Nat.le_self_pow (by omega) 2
  have ne : c ≠ P := by
    rintro rfl
    simp [isPrimeFn_of_prime prime b] at fails
  have odd_P := prime.eq_two_or_odd
  exact ⟨by omega, by omega, P, prime, by omega, lt⟩

/-- A candidate that passes is a result (43_prime_generator.md R163). -/
theorem Walking.generated {bits c : Nat} {b : BaseSource} (h : Walking bits c) (passes : (isPrimeFn c b).1 = true) :
    Generated bits c := by
  obtain ⟨odd, lo, P, -, le, lt⟩ := h
  exact ⟨odd, lo, by omega, passesTrial_of_isPrimeFn passes⟩

/-! ## Registers below a bound -/

theorem RegFile.get_set_lt {x : RegFile} {N v : Nat} (h : ∀ i, x.get i < N) (hv : v < N) (i j : Reg) :
    (x.set i v).get j < N := by
  rw [RegFile.get_set]
  split
  · exact hv
  · exact h j

theorem RegFile.get_foldl_set_lt {N : Nat} {ws : List (Reg × Nat)} {x : RegFile} (h : ∀ i, x.get i < N)
    (hw : ∀ w ∈ ws, w.2 < N) (i : Reg) : (ws.foldl (fun x w => x.set w.1 w.2) x).get i < N := by
  induction ws generalizing x with
  | nil => exact h i
  | cons w ws ih =>
    obtain ⟨head, tail⟩ := List.forall_mem_cons.1 hw
    exact ih (RegFile.get_set_lt h head w.1) tail

theorem ErrCode.code_le (c : ErrCode) : c.code.toNat ≤ 5 := by cases c <;> decide

section
variable {s : State}

/-! ## What runs in each state of the controller -/

section
variable {rd rs1 : Reg}

theorem running_genprime_gpDraw (hf : s.fsm = .gpDraw) :
    Running (.genprime rd rs1) s ↔ s.gbits = s.A ∧ 2 ≤ s.A ∧ s.A ≤ s.params.width - 1 := by
  simp [Running, hf]

theorem running_genprime_gpTest (hf : s.fsm = .gpTest) :
    Running (.genprime rd rs1) s ↔
      Walking s.gbits s.cand ∧ s.gbits = s.A ∧ 2 ≤ s.A ∧ s.A ≤ s.params.width - 1 := by
  simp [Running, hf]

/-- The argument KEYGEN accepted, and what START made of it (44_key_derivation.md R181). -/
def KeygenArgs (s : State) : Prop :=
  s.gbits = s.A / 2 + 1 ∧ s.kt = s.A ∧ 2 ≤ s.A ∧ s.A ≤ s.params.width - 4

theorem running_keygen_gpDraw (hf : s.fsm = .gpDraw) :
    Running (.keygen rd rs1) s ↔ (s.phase = .q → Generated s.gbits s.kp) ∧ KeygenArgs s := by
  simp [Running, KeygenArgs, hf]

theorem running_keygen_gpTest (hf : s.fsm = .gpTest) :
    Running (.keygen rd rs1) s ↔
      Walking s.gbits s.cand ∧ (s.phase = .q → Generated s.gbits s.kp) ∧ KeygenArgs s := by
  simp [Running, KeygenArgs, hf]

theorem running_keygen_kgInv (hf : s.fsm = .kgInv) :
    Running (.keygen rd rs1) s ↔
      s.phase = .q ∧ Generated s.gbits s.kq ∧ Generated s.gbits s.kp ∧ KeygenArgs s := by
  simp only [Running, KeygenArgs, hf, reduceCtorEq, false_or, false_and, true_and]
  constructor
  · rintro ⟨⟨phase, q⟩, p, args⟩
    exact ⟨phase, q, p phase, args⟩
  · rintro ⟨phase, q, p, args⟩
    exact ⟨⟨phase, q⟩, fun _ => p, args⟩

theorem KeygenArgs.two_le_gbits (args : KeygenArgs s) : 2 ≤ s.gbits := by
  obtain ⟨bits, -, lo, -⟩ := args
  omega

/-- The four results of KEYGEN fit the registers (44_key_derivation.md R181). -/
theorem keygenWrites_lt (p : Generated s.gbits s.kp) (q : Generated s.gbits s.kq) (args : KeygenArgs s)
    (legal : s.params.Legal) : ∀ w ∈ keygenWrites rd s, w.2 < 2 ^ s.params.width := by
  obtain ⟨bits, kt, lo, hi⟩ := args
  obtain ⟨-, width, -⟩ := legal
  obtain ⟨-, p_lo, p_hi, -⟩ := p
  obtain ⟨-, q_lo, q_hi, -⟩ := q
  have two_le : 2 ≤ 2 ^ (s.gbits - 1) := Nat.le_self_pow (by omega) 2
  have n_lt : s.kp * s.kq < 2 ^ s.params.width :=
    calc s.kp * s.kq < 2 ^ (s.gbits + 1) * 2 ^ (s.gbits + 1) := Nat.mul_lt_mul'' p_hi q_hi
      _ = 2 ^ (s.gbits + 1 + (s.gbits + 1)) := (pow_add ..).symm
      _ ≤ 2 ^ s.params.width := Nat.pow_le_pow_right (by norm_num) (by omega)
  have phi_pos : 1 ≤ s.phi := Nat.mul_pos (by omega) (by omega)
  have d_lt : (xgcd ePub s.phi).2 < 2 ^ s.params.width :=
    calc (xgcd ePub s.phi).2 < s.phi := xgcd_snd_lt _ phi_pos
      _ ≤ s.kp * s.kq := Nat.mul_le_mul (Nat.sub_le ..) (Nat.sub_le ..)
      _ < 2 ^ s.params.width := n_lt
  have e_lt : ePub < 2 ^ s.params.width :=
    calc ePub < 2 ^ 64 := by decide
      _ ≤ 2 ^ s.params.width := Nat.pow_le_pow_right (by norm_num) width
  have T_lt : s.kt < 2 ^ s.params.width :=
    calc s.kt < s.params.width := by omega
      _ < 2 ^ s.params.width := Nat.lt_two_pow_self
  simp [keygenWrites, e_lt, d_lt, n_lt, T_lt]

end

theorem Running.not_idle {i : Instr} (h : Running i s) : s.fsm ≠ .idle := by
  intro idle
  cases i <;> simp [Running, idle] at h

/-! ## The operations keep the invariant -/

namespace StateInv

/-- Out of reset the clause on the reset values says nothing. -/
theorem not_inReset {P : Prop} (rst : s.rstN = true) (h : s.rstN = false) : P := by simp [rst] at h

variable (inv : StateInv s)
include inv

theorem idle_of_not_busy (hb : s.busy = false) : s.fsm = .idle := by
  by_contra hf
  simp [inv.busy_iff.2 hf] at hb

theorem setInbox (es : List Event) : StateInv (s.setInbox es) := { inv with }

theorem respond (r : Response) : StateInv (s.respond r) := { inv with }

theorem offerEntropy (w : Word) : StateInv (s.offerEntropy w) := { inv with }

theorem setBases (b : BaseSource) : StateInv (s.setBases b) := { inv with }

theorem releaseReset : StateInv s.releaseReset := { inv with inReset := fun h => by cases h }

theorem assertReset : StateInv s.assertReset where
  legal := inv.legal
  regs i := by simp
  busy_iff := by simp
  running h := absurd rfl h
  err_le := by simp
  cleared _ := ⟨rfl, rfl, rfl, rfl, rfl, rfl⟩
  snapshot h := absurd rfl h
  latched h := absurd rfl h
  inReset _ := rfl

variable (rst : s.rstN = true)
include rst

theorem setIe (v : Bool) : StateInv (s.setIe v) := { inv with inReset := not_inReset rst }

theorem setPrime (v : Bool) : StateInv (s.setPrime v) := { inv with inReset := not_inReset rst }

theorem collide : StateInv s.collide := { inv with inReset := not_inReset rst }

theorem writeStatus (v : Word) : StateInv (writeStatus v s) :=
  { inv with
    running := fun hf => by
      obtain ⟨done, err⟩ := inv.running hf
      exact ⟨by simp [Machine.writeStatus, done], err⟩
    inReset := not_inReset rst }

theorem writeRegs {ws : List (Reg × Nat)} (h : ∀ w ∈ ws, w.2 < 2 ^ s.params.width) : StateInv (s.writeRegs ws) :=
  { inv with
    regs := RegFile.get_foldl_set_lt inv.regs h
    inReset := not_inReset rst }

theorem finish (c : ErrCode) : StateInv (s.finish c) where
  legal := inv.legal
  regs := inv.regs
  busy_iff := by simp
  running h := absurd rfl h
  err_le := c.code_le
  cleared _ := ⟨rfl, rfl, rfl, rfl, rfl, rfl⟩
  snapshot h := absurd rfl h
  latched h := absurd rfl h
  inReset := not_inReset rst

theorem completeOk {ws : List (Reg × Nat)} (h : ∀ w ∈ ws, w.2 < 2 ^ s.params.width) : StateInv (completeOk ws s) :=
  (inv.writeRegs rst h).finish rst .ok

/-- An accept takes the snapshot of registers in range, and finds the internal state cleared. -/
theorem accept {w : Word} {i : Instr} (hb : s.busy = false) (legal : decode w = some i) : StateInv (s.accept w) where
  legal := inv.legal
  regs := inv.regs
  busy_iff := by simp
  running _ := ⟨rfl, rfl⟩
  err_le := ErrCode.ok.code_le
  cleared _ := inv.cleared (.inl (inv.idle_of_not_busy hb))
  snapshot _ := ⟨inv.regs _, inv.regs _, inv.regs _⟩
  latched _ := ⟨i, legal, by cases i <;> simp [Running]⟩
  inReset := not_inReset rst

/-- A limb that is present lies below `2^W` (20_memory.md R62). -/
theorem writeLimb (i : Reg) {j : Nat} (v : Word) (present : j < limbCount s.params) :
    StateInv (s.writeRegs [(i, setLimb (s.X.get i) j v)]) := by
  refine inv.writeRegs rst (List.forall_mem_singleton.2 (setLimb_lt v (inv.regs i) ?_))
  unfold limbCount at present
  omega

/-- Every transaction keeps the invariant. -/
theorem txnOutcome {x : Txn} {t : State} (h : x.Outcome s t) : StateInv t := by
  cases h with
  | nothing => exact inv
  | setIe v => exact inv.setIe rst _
  | abort v busy => exact (inv.setIe rst (v.getLsbD 0)).finish rst .aborted
  | status v => exact inv.writeStatus rst v
  | collide => exact inv.collide rst
  | illegal w busy => exact inv.finish rst .illegal
  | accept w i busy legal => exact inv.accept rst busy legal
  | limb off v i j busy place present => exact inv.writeLimb rst i v present

/-! ## The commands keep the invariant -/

/-- A step of a running command after which the command still runs: only the command's own internal state has to be
looked at. -/
theorem goesOn {i : Instr} {t : State} (latched : decode s.cmd = some i) (busy : s.fsm ≠ .idle) (frame : ExecFrame i s t)
    (run : Running i t) : StateInv t := by
  have kept := frame.kept
  obtain ⟨A, B, C⟩ := kept.snapshot_eq
  obtain ⟨start, X, -, busy_eq, done, -, -, err⟩ : t.fsm ≠ .start ∧ HostVisibleKept s t := by
    rcases frame.ends with ⟨c, -, -, -, idle, -⟩ | ⟨-, ends⟩
    · exact absurd idle run.not_idle
    · exact ends
  exact {
    legal := by rw [kept.params_eq]; exact inv.legal
    regs := by rw [kept.params_eq, X]; exact inv.regs
    busy_iff := by simp [busy_eq, inv.busy_iff.2 busy, run.not_idle]
    running := fun _ => by rw [done, err]; exact inv.running busy
    err_le := by rw [err]; exact inv.err_le
    cleared := fun h => by simp [run.not_idle, start] at h
    snapshot := fun _ => by rw [kept.params_eq, A, B, C]; exact inv.snapshot busy
    latched := fun _ => ⟨i, by rw [kept.cmd_eq, latched], run⟩
    inReset := fun h => by simp [kept.rstN_eq, rst] at h }

theorem modexpStart (rd : Reg) (busy : s.fsm ≠ .idle) : StateInv (modexpStart rd s) := by
  rcases modexpStart_cases rd s with ⟨-, e⟩ | ⟨hC, e⟩ <;> rw [e]
  · exact inv.finish rst .invalidKey
  · obtain ⟨-, -, C_lt⟩ := inv.snapshot busy
    exact inv.completeOk rst (List.forall_mem_singleton.2 ((modexp_lt s.A s.B hC).trans C_lt))

theorem modinvStart (rd : Reg) (busy : s.fsm ≠ .idle) : StateInv (modinvStart rd s) := by
  rcases modinvStart_cases rd s with ⟨-, e⟩ | ⟨-, -, e⟩ | ⟨hB, -, e⟩ <;> rw [e]
  · exact inv.finish rst .badArg
  · exact inv.finish rst .noInverse
  · obtain ⟨-, B_lt, -⟩ := inv.snapshot busy
    exact inv.completeOk rst (List.forall_mem_singleton.2 ((xgcd_snd_lt s.A (by omega)).trans B_lt))

theorem isprimeStart : StateInv (isprimeStart s) :=
  ((inv.setBases (isPrimeFn s.A s.bases).2).setPrime rst (isPrimeFn s.A s.bases).1).completeOk rst (List.forall_mem_nil _)

/-- GENPRIME: the walk stays below `2^W`, as `bits <= W - 1`. -/
theorem genprime {rd rs1 : Reg} {t : State} (latched : decode s.cmd = some (.genprime rd rs1))
    (run : Running (.genprime rd rs1) s) (h : exec (.genprime rd rs1) s = .next t) : StateInv t := by
  have goesOn := inv.goesOn rst latched run.not_idle (execFrame_of_next h)
  obtain ⟨-, width, -⟩ := inv.legal
  rcases exec_genprime_next.1 h with ⟨hf, rfl⟩ | ⟨hf, rfl⟩ | ⟨hf, rfl⟩
  · rcases genprimeStart_cases s with ⟨-, e⟩ | ⟨lo, hi, e⟩ <;> rw [e] at goesOn ⊢
    · exact inv.finish rst .badArg
    · exact goesOn ((running_genprime_gpDraw rfl).2 ⟨rfl, lo, hi⟩)
  · obtain ⟨bits, lo, hi⟩ := (running_genprime_gpDraw hf).1 run
    rcases candidateDraw_cases s with ⟨-, e⟩ | ⟨-, e⟩ <;> rw [e] at goesOn ⊢
    · exact goesOn ((running_genprime_gpTest rfl).2 ⟨walking_drawn s (by omega), bits, lo, hi⟩)
    · exact inv
  · obtain ⟨walk, bits, lo, hi⟩ := (running_genprime_gpTest hf).1 run
    rcases candidateTest_cases (genprimePassed rd) s with ⟨passes, e⟩ | ⟨fails, e⟩ <;> rw [e] at goesOn ⊢
    · obtain ⟨-, -, cand_lt, -⟩ := walk.generated passes
      have le : 2 ^ (s.gbits + 1) ≤ 2 ^ s.params.width := Nat.pow_le_pow_right (by norm_num) (by omega)
      exact (inv.setBases (isPrimeFn s.cand s.bases).2).completeOk (ws := [(rd, s.cand)]) rst
        (List.forall_mem_singleton.2 (cand_lt.trans_le le))
    · exact goesOn ((running_genprime_gpTest (by simp [hf])).2 ⟨walk.add_two (by omega) fails, bits, lo, hi⟩)

/-- KEYGEN: in phase Q the prime `p` is a result of the walk, and in KG_INV `q` is one too. -/
theorem keygen {rd rs1 : Reg} {t : State} (latched : decode s.cmd = some (.keygen rd rs1))
    (run : Running (.keygen rd rs1) s) (h : exec (.keygen rd rs1) s = .next t) : StateInv t := by
  have goesOn := inv.goesOn rst latched run.not_idle (execFrame_of_next h)
  rcases exec_keygen_next.1 h with ⟨hf, rfl⟩ | ⟨hf, rfl⟩ | ⟨hf, rfl⟩ | ⟨hf, rfl⟩
  · rcases keygenStart_cases s with ⟨-, e⟩ | ⟨lo, hi, e⟩ <;> rw [e] at goesOn ⊢
    · exact inv.finish rst .badArg
    · exact goesOn ((running_keygen_gpDraw rfl).2 ⟨fun h => by simp at h, rfl, rfl, lo, hi⟩)
  · obtain ⟨p, args⟩ := (running_keygen_gpDraw hf).1 run
    rcases candidateDraw_cases s with ⟨-, e⟩ | ⟨-, e⟩ <;> rw [e] at goesOn ⊢
    · exact goesOn ((running_keygen_gpTest rfl).2 ⟨walking_drawn s (by have := args.two_le_gbits; omega), p, args⟩)
    · exact inv
  · obtain ⟨walk, p, args⟩ := (running_keygen_gpTest hf).1 run
    rcases candidateTest_cases keygenPassed s with ⟨passes, e⟩ | ⟨fails, e⟩ <;> rw [e] at goesOn ⊢
    · have result := walk.generated passes
      rcases keygenPassed_cases (s.setBases (isPrimeFn s.cand s.bases).2) with ⟨-, e⟩ | ⟨phase, e⟩ <;>
        rw [e] at goesOn ⊢
      · exact goesOn ((running_keygen_gpDraw rfl).2 ⟨fun _ => result, args⟩)
      · exact goesOn ((running_keygen_kgInv rfl).2 ⟨phase, result, p phase, args⟩)
    · exact goesOn ((running_keygen_gpTest (by simp [hf])).2 ⟨walk.add_two args.two_le_gbits fails, p, args⟩)
  · obtain ⟨phase, q, p, args⟩ := (running_keygen_kgInv hf).1 run
    rcases deriveKey_cases rd s with ⟨-, e⟩ | ⟨-, e⟩ <;> rw [e] at goesOn ⊢
    · exact inv.completeOk rst (keygenWrites_lt p q args inv.legal)
    · exact goesOn ((running_keygen_gpDraw rfl).2 ⟨fun h => by simp at h, args⟩)

/-- Every engine step of the latched command keeps the invariant. -/
theorem exec {i : Instr} {t : State} (latched : decode s.cmd = some i) (busy : s.fsm ≠ .idle)
    (h : exec i s = .next t) : StateInv t := by
  have run : Running i s := by
    obtain ⟨j, latched', run⟩ := inv.latched busy
    obtain rfl : j = i := by simpa [latched'] using latched
    exact run
  cases i with
  | nop =>
    obtain ⟨-, rfl⟩ := exec_nop_next.1 h
    exact inv.completeOk rst (List.forall_mem_nil _)
  | modexp rd rs1 rs2 rs3 =>
    obtain ⟨-, rfl⟩ := exec_modexp_next.1 h
    exact inv.modexpStart rst rd busy
  | modinv rd rs1 rs2 =>
    obtain ⟨-, rfl⟩ := exec_modinv_next.1 h
    exact inv.modinvStart rst rd busy
  | isprime rs1 =>
    obtain ⟨-, rfl⟩ := exec_isprime_next.1 h
    exact inv.isprimeStart rst
  | genprime rd rs1 => exact inv.genprime rst latched run h
  | keygen rd rs1 => exact inv.keygen rst latched run h

end StateInv
end

/-- Settles O4, by the outcomes of a step. -/
theorem stepKeepsInvariant : Obligations.StepKeepsInvariant := by
  intro s t inv h
  cases stepOutcome_of_next h with
  | bus x rest u inbox rst outcome => exact ((inv.setInbox rest).txnOutcome rst outcome).respond _
  | hold rest => exact inv.setInbox rest
  | engine rest i _ inbox rst busy latched runs => exact (inv.setInbox rest).exec rst latched busy runs
  | resetAssert rest inbox => exact (inv.setInbox rest).assertReset
  | resetRelease rest => exact (inv.setInbox rest).releaseReset
  | entropy rest w => exact (inv.setInbox rest).offerEntropy w

end Sys2Proof.Machine
end

section
/-! PROOFS. The rules of 20_memory.md on the bus: which transactions are taken, what a write does, the bytes of a window. -/

namespace Sys2Proof.Machine

/-! ## Transactions that are not taken (20_memory.md R65) -/

theorem Txn.accepted_read_iff {off : Offset} {size : Nat} :
    (Txn.read off size).accepted = true ↔ size = 4 ∧ off.toNat % 4 = 0 := by
  simp [Txn.accepted, aligned]

theorem Txn.accepted_write_iff {off : Offset} {size : Nat} {strb : BitVec 4} {v : Word} :
    (Txn.write off size strb v).accepted = true ↔ size = 4 ∧ strb = 0xF ∧ off.toNat % 4 = 0 := by
  simp [Txn.accepted, aligned, and_assoc]

theorem Txn.effect_of_refused {x : Txn} (s : State) (h : ¬ x.accepted = true) : x.effect s = s := by
  cases x with
  | read off size => rfl
  | write off size strb v => exact if_neg h

/-- Out of reset a transaction takes its effect and its answer is kept, whatever it is. -/
theorem deliver_bus {s : State} (x : Txn) (hr : s.rstN = true) :
    deliver (.bus x) s = .next ((x.effect s).respond (x.answer s)) := if_pos hr

/-- Settles O19: such a transaction is not accepted, so it has no effect and answers the bus error. -/
theorem otherTransactionsAnswerSlverr : Obligations.OtherTransactionsAnswerSlverr := by
  intro s off size strb v hr
  constructor
  · intro other
    have refused : ¬ (Txn.read off size).accepted = true := by rw [Txn.accepted_read_iff]; tauto
    rw [deliver_bus _ hr, Txn.effect_of_refused s refused, Txn.answer, if_neg refused]
    rfl
  · intro other
    have refused : ¬ (Txn.write off size strb v).accepted = true := by rw [Txn.accepted_write_iff]; tauto
    rw [deliver_bus _ hr, Txn.effect_of_refused s refused, Txn.answer, if_neg refused]
    rfl

/-! ## Offsets that take no write (20_memory.md R63) -/

theorem busRead_unmapped {off : Offset} (s : State) (h : target off = .unmapped) : busRead off s = 0 := by
  rw [busRead, h]

/-- ID, CONFIG and the unmapped offsets take no write. -/
theorem busWrite_ignored {off : Offset} (v : Word) (s : State)
    (h : target off = .id ∨ target off = .config ∨ target off = .unmapped) : busWrite off v s = s := by
  rcases h with h | h | h <;> rw [busWrite, h]

/-- The aligned offsets below CTRL are those of ID and CONFIG (20_memory.md R61). -/
theorem target_id_or_config {off : Offset} (ha : off.toNat % 4 = 0) (h : off.toNat < 0x008) :
    target off = .id ∨ target off = .config := by
  rcases (by omega : off.toNat = 0 ∨ off.toNat = 4) with h | h
  · exact .inl (by simp [target, h])
  · exact .inr (by simp [target, h])

/-- Settles O20: what each of the offsets names decides both the read and the write. -/
theorem unmappedReadsZeroAndIgnoresWrites : Obligations.UnmappedReadsZeroAndIgnoresWrites := by
  intro s off v hr ha
  constructor
  · intro h
    rw [deliver_read hr ha, busRead_unmapped s (target_unmapped h)]
    rfl
  · intro h
    have readOnly : target off = .id ∨ target off = .config ∨ target off = .unmapped := by
      rcases (by tauto : off.toNat < 0x008 ∨ (0x010 < off.toNat ∧ off.toNat < 0x400 ∨ 0x2400 ≤ off.toNat)) with low | h
      · exact or_assoc.1 (.inl (target_id_or_config ha low))
      · exact .inr (.inr (target_unmapped h))
    rw [deliver_write v hr ha, busWrite_ignored v s readOnly]
    rfl

/-! ## One limb (20_memory.md R62, R66) -/

/-- Settles O14: the cases of `writeLimb`, and `setLimb` in the register of the limb. -/
theorem limbWriteSetsOneLimb : Obligations.LimbWriteSetsOneLimb := by
  intro s i j v hr hj
  have ha : (limbOffset i j).toNat % 4 = 0 := by rw [limbOffset_toNat hj]; omega
  refine ⟨writeLimb i j v s, ?_, ?_⟩
  · rw [deliver_write v hr ha, busWrite_limb v s hj]
    rcases writeLimb_cases i j v s with ⟨-, e⟩ | ⟨-, -, e⟩ | ⟨-, -, e⟩ <;> rw [e] <;> rfl
  · rcases writeLimb_cases i j v s with ⟨absent, e⟩ | ⟨present, busy, e⟩ | ⟨present, busy, e⟩ <;> rw [e]
    · exact ⟨fun present => absurd absent present.not_ge, fun present => absurd absent present.not_ge, fun _ => rfl⟩
    · exact ⟨fun _ idle => by simp [busy] at idle, fun _ _ => rfl, fun absent => absurd absent present.not_ge⟩
    · refine ⟨fun _ _ => ⟨rfl, fun i' j' => ?_⟩, fun _ running => by simp [busy] at running,
        fun absent => absurd absent present.not_ge⟩
      by_cases same : i' = i
      · subst same
        simp [limb_setLimb]
      · simp [same, RegFile.get_set_ne]

/-! ## Writing twice (20_memory.md R68) -/

/-- What a write puts below bit `32j + 32` does not reach above it. -/
theorem setLimb_low_lt (v j : Nat) (w : Word) : w.toNat * 2 ^ (32 * j) + v % 2 ^ (32 * j) < 2 ^ (32 * j + 32) := by
  have lo : v % 2 ^ (32 * j) < 2 ^ (32 * j) := Nat.mod_lt _ (by positivity)
  calc w.toNat * 2 ^ (32 * j) + v % 2 ^ (32 * j)
      < w.toNat * 2 ^ (32 * j) + 2 ^ (32 * j) := by omega
    _ = (w.toNat + 1) * 2 ^ (32 * j) := by ring
    _ ≤ 2 ^ 32 * 2 ^ (32 * j) := Nat.mul_le_mul_right _ w.isLt
    _ = 2 ^ (32 * j + 32) := by ring

/-- Writing a limb leaves the bits above it. -/
theorem setLimb_div (v j : Nat) (w : Word) : setLimb v j w / 2 ^ (32 * j + 32) = v / 2 ^ (32 * j + 32) := by
  rw [setLimb, Nat.add_assoc, Nat.mul_comm, Nat.mul_add_div (by positivity), Nat.div_eq_of_lt (setLimb_low_lt v j w),
    Nat.add_zero]

/-- Writing a limb leaves the bits below it. -/
theorem setLimb_mod (v j : Nat) (w : Word) : setLimb v j w % 2 ^ (32 * j) = v % 2 ^ (32 * j) := by
  have regroup : setLimb v j w = 2 ^ (32 * j) * (v / 2 ^ (32 * j + 32) * 2 ^ 32 + w.toNat) + v % 2 ^ (32 * j) := by
    rw [setLimb]; ring
  rw [regroup, Nat.mul_add_mod, Nat.mod_mod]

/-- Of two writes to a limb the second counts. -/
theorem setLimb_setLimb (v j : Nat) (w w' : Word) : setLimb (setLimb v j w) j w' = setLimb v j w' := by
  rw [setLimb, setLimb_div, setLimb_mod, ← setLimb]

theorem writeLimb_idempotent (i : Reg) (j : Nat) (v : Word) (s : State) :
    writeLimb i j v (writeLimb i j v s) = writeLimb i j v s := by
  rcases writeLimb_cases i j v s with ⟨-, e⟩ | ⟨present, busy, e⟩ | ⟨present, busy, e⟩ <;> simp only [e]
  · simp [writeLimb, present, busy, State.collide]
  · simp [writeLimb, present, busy, setLimb_setLimb]

theorem writeStatus_idempotent (v : Word) (s : State) : writeStatus v (writeStatus v s) = writeStatus v s := by
  unfold writeStatus
  cases v.getLsbD 1 <;> cases v.getLsbD 3 <;> rfl

/-- Without the abort bit CTRL takes `IE` alone. -/
theorem writeCtrl_of_no_abort {v : Word} (s : State) (h : v.getLsbD 1 = false) :
    writeCtrl v s = s.setIe (v.getLsbD 0) := by
  rw [writeCtrl, h, if_neg Bool.false_ne_true]

/-- Settles O21: a read has no effect; a write gives its target a value that does not depend on the one it replaces. -/
theorem writesAreIdempotent : Obligations.WritesAreIdempotent := by
  refine ⟨fun s off size hr => ⟨(Txn.read off size).answer s, deliver_bus _ hr⟩, fun s off v _ notCmd noAbort => ?_⟩
  rcases target_cases off with ⟨-, h⟩ | ⟨-, h⟩ | ⟨ctrl, h⟩ | ⟨-, h⟩ | ⟨cmd, -⟩ | ⟨-, -, i, j, h, -⟩ | h
  · simp only [busWrite_ignored v _ (.inl h)]
  · simp only [busWrite_ignored v _ (.inr (.inl h))]
  · simp only [busWrite, h, writeCtrl_of_no_abort _ (noAbort ctrl)]
    rfl
  · simp only [busWrite, h, writeStatus_idempotent]
  · exact absurd cmd notCmd
  · simp only [busWrite, h, writeLimb_idempotent]
  · simp only [busWrite_ignored v _ (.inr (.inr h))]

/-! ## The bytes of a window (20_memory.md R64) -/

/-- Byte `r` of limb `j` is byte `4j + r` of the value. -/
theorem limb_byte (v j : Nat) {r : Nat} (hr : r < 4) :
    limb v j / 2 ^ (8 * r) % 2 ^ 8 = v / 2 ^ (8 * (4 * j + r)) % 2 ^ 8 := by
  have lanes : 2 ^ 32 = 2 ^ (8 * r) * 2 ^ (32 - 8 * r) := by rw [← Nat.pow_add]; congr 1; omega
  have lane : 2 ^ 8 ∣ 2 ^ (32 - 8 * r) := Nat.pow_dvd_pow 2 (by omega)
  calc limb v j / 2 ^ (8 * r) % 2 ^ 8
      = v / 2 ^ (32 * j) / 2 ^ (8 * r) % 2 ^ (32 - 8 * r) % 2 ^ 8 := by
        rw [limb_eq, lanes, Nat.mod_mul_right_div_self]
    _ = v / 2 ^ (32 * j) / 2 ^ (8 * r) % 2 ^ 8 := Nat.mod_mod_of_dvd _ lane
    _ = v / 2 ^ (8 * (4 * j + r)) % 2 ^ 8 := by
        rw [Nat.div_div_eq_div_mul, ← Nat.pow_add]; congr 3; ring

/-- A read of a present limb gives the limb. -/
theorem busRead_present_limb {i : Reg} {j : Nat} {s : State} (h : j < 256) (present : j < limbCount s.params) :
    (busRead (limbOffset i j) s).toNat = limb (s.X.get i) j := by
  rw [busRead_limb s h, if_pos present, BitVec.toNat_ofNat, Nat.mod_eq_of_lt (limb_lt _ _)]

/-- Settles O22: every byte of the width lies in a present limb, whose word the read returns. -/
theorem windowBytesAreLittleEndian : Obligations.WindowBytesAreLittleEndian := by
  intro s i k legal hk
  obtain ⟨whole, -, widest⟩ := legal
  have present : k / 4 < limbCount s.params := by unfold limbCount; omega
  rw [busRead_present_limb (by omega) present, limb_byte _ _ (Nat.mod_lt k (by norm_num)), Nat.div_add_mod]

end Sys2Proof.Machine
end

section
/-! PROOFS. The rules of 30_encoding.md on command words: the fields of a word, the rows, decoding and encoding. -/

namespace Sys2Proof

/-! ## Masks made of fields -/

/-- The ones of the field of `len` bits whose lowest bit is bit `lo`. -/
def fieldMask (lo len : Nat) : Word := (BitVec.allOnes len).setWidth 32 <<< lo

/-- The ones of several fields, each given by its lowest bit and its length. -/
def fieldsMask : List (Nat × Nat) → Word
  | [] => 0
  | f :: fs => fieldMask f.1 f.2 ||| fieldsMask fs

theorem fieldMask_getLsbD {lo len k : Nat} (hk : k < 32) :
    (fieldMask lo len).getLsbD k = (decide (lo ≤ k) && decide (k < lo + len)) := by
  simp only [fieldMask, BitVec.getLsbD_shiftLeft, BitVec.getLsbD_setWidth, BitVec.getLsbD_allOnes, ← Bool.decide_and]
  grind

theorem field_testBit (w : Word) (lo len k : Nat) :
    (field w lo len).testBit k = (decide (k < len) && w.getLsbD (lo + k)) := by
  rw [field, Nat.testBit_mod_two_pow, Nat.testBit_div_two_pow, Nat.add_comm k]; rfl

/-- Two words agree under the mask of a field when they have the same field. -/
theorem and_fieldMask_eq_iff (w p : Word) (lo len : Nat) :
    w &&& fieldMask lo len = p &&& fieldMask lo len ↔ field w lo len = field p lo len := by
  constructor
  · intro h
    refine Nat.eq_of_testBit_eq fun k => ?_
    have bit := congrArg (·.getLsbD (lo + k)) h
    simp only [BitVec.getLsbD_and] at bit
    rw [field_testBit, field_testBit]
    by_cases hk : lo + k < 32
    · rw [fieldMask_getLsbD hk] at bit
      simpa [Bool.and_comm] using bit
    · simp [BitVec.getLsbD_of_ge _ _ (not_lt.1 hk)]
  · intro h
    refine BitVec.eq_of_getLsbD_eq fun k hk => ?_
    have bit := congrArg (·.testBit (k - lo)) h
    simp only [field_testBit] at bit
    simp only [BitVec.getLsbD_and, fieldMask_getLsbD hk]
    grind

theorem and_or_eq_iff (w p a b : Word) :
    w &&& (a ||| b) = p &&& (a ||| b) ↔ w &&& a = p &&& a ∧ w &&& b = p &&& b := by
  simp only [BitVec.eq_of_getLsbD_eq_iff, BitVec.getLsbD_and, BitVec.getLsbD_or]
  grind

/-- Two words agree under the mask of some fields when they have the same of each. -/
theorem and_fieldsMask_eq_iff (w p : Word) (fs : List (Nat × Nat)) :
    w &&& fieldsMask fs = p &&& fieldsMask fs ↔ ∀ f ∈ fs, field w f.1 f.2 = field p f.1 f.2 := by
  induction fs with
  | nil => simp [fieldsMask]
  | cons f fs ih => rw [fieldsMask, and_or_eq_iff, and_fieldMask_eq_iff, ih, List.forall_mem_cons]

/-! ## The rows (30_encoding.md R83, R85) -/

/-- The bits `[7:6]`, `[11]`, `[15]`, `[19]`, `[31:23]` (30_encoding.md R81). -/
def reservedFields : List (Nat × Nat) := [(6, 2), (11, 1), (15, 1), (19, 1), (23, 9)]

/-- The operand fields a command does not use, and for KEYGEN the two low bits of `RD` (30_encoding.md R83, R84). -/
def Mnemonic.clearFields : Mnemonic → List (Nat × Nat)
  | .nop => [(8, 3), (12, 3), (16, 3), (20, 3)]
  | .modexp => []
  | .modinv => [(20, 3)]
  | .isprime => [(8, 3), (16, 3), (20, 3)]
  | .genprime => [(16, 3), (20, 3)]
  | .keygen => [(8, 2), (16, 3), (20, 3)]

/-- What 30_encoding.md R85 asks of a word whose opcode is one of the map's. -/
def OperandsLegal (w : Word) : Prop :=
  reservedSet w = false ∧ unusedSet w = false ∧ (opcField w = 5 → keygenDest (rdField w) = true)

/-- The opcode of a row (30_encoding.md R83). -/
def Mnemonic.opcode : Mnemonic → Nat
  | .nop => 0
  | .modexp => 1
  | .modinv => 2
  | .isprime => 3
  | .genprime => 4
  | .keygen => 5

/-- A row's mask covers `OPC`, the reserved bits and the fields to be clear, and its pattern has the opcode only. -/
theorem row_shape : ∀ r ∈ rows, r.mask = fieldsMask ((0, 6) :: reservedFields ++ r.mnemonic.clearFields) ∧
    r.pattern &&& r.mask = r.pattern ∧ opcField r.pattern = r.mnemonic.opcode ∧
    ∀ f ∈ reservedFields ++ r.mnemonic.clearFields, field r.pattern f.1 f.2 = 0 := by
  decide

theorem exists_row (m : Mnemonic) : ∃ r ∈ rows, r.mnemonic = m := by
  cases m <;> decide

theorem row_eq_of_opcode : ∀ r ∈ rows, ∀ r' ∈ rows, r.mnemonic.opcode = r'.mnemonic.opcode → r = r' := by
  decide

theorem Mnemonic.opcode_lt (m : Mnemonic) : m.opcode < 6 := by
  cases m <;> decide

theorem exists_mnemonic_of_opcode {n : Nat} (h : n < 6) : ∃ m : Mnemonic, n = m.opcode := by
  interval_cases n
  exacts [⟨.nop, rfl⟩, ⟨.modexp, rfl⟩, ⟨.modinv, rfl⟩, ⟨.isprime, rfl⟩, ⟨.genprime, rfl⟩, ⟨.keygen, rfl⟩]

/-! ### The fields that must be clear are those of R85's list -/

theorem reservedSet_eq_false_iff (w : Word) :
    reservedSet w = false ↔ ∀ f ∈ reservedFields, field w f.1 f.2 = 0 := by
  simp [reservedSet, reservedFields, and_assoc]

theorem regField_val (w : Word) (lo : Nat) : (regField w lo).val = field w lo 3 :=
  Nat.mod_eq_of_lt (Nat.mod_lt _ (by norm_num))

theorem regField_eq_zero_iff (w : Word) (lo : Nat) : regField w lo = 0 ↔ field w lo 3 = 0 := by
  rw [← regField_val]; exact Fin.ext_iff

theorem keygenDest_rdField_iff (w : Word) : keygenDest (rdField w) = true ↔ field w 8 2 = 0 := by
  simp only [keygenDest, rdField, regField_val, field, beq_iff_eq]
  omega

theorem clearFields_iff {m : Mnemonic} {w : Word} (opc : opcField w = m.opcode) :
    (∀ f ∈ m.clearFields, field w f.1 f.2 = 0) ↔
      unusedSet w = false ∧ (opcField w = 5 → keygenDest (rdField w) = true) := by
  rw [keygenDest_rdField_iff]
  cases m <;>
    simp [unusedSet, opc, Mnemonic.opcode, Mnemonic.clearFields, rdField, rs1Field, rs2Field, rs3Field,
      regField_eq_zero_iff, and_assoc, and_comm]

/-- A word selects a row when it has the row's opcode and R85 has nothing against its other bits. -/
theorem selects_iff {r : Row} (hr : r ∈ rows) (w : Word) :
    r.selects w = true ↔ opcField w = r.mnemonic.opcode ∧ OperandsLegal w := by
  obtain ⟨hmask, hpattern, hopcode, hclear⟩ := row_shape r hr
  calc r.selects w = true
      ↔ w &&& r.mask = r.pattern &&& r.mask := by rw [hpattern, Row.selects, beq_iff_eq]
    _ ↔ opcField w = opcField r.pattern ∧
          ∀ f ∈ reservedFields ++ r.mnemonic.clearFields, field w f.1 f.2 = field r.pattern f.1 f.2 := by
        rw [hmask, and_fieldsMask_eq_iff, List.cons_append, List.forall_mem_cons, opcField, opcField]
    _ ↔ opcField w = r.mnemonic.opcode ∧ ∀ f ∈ reservedFields ++ r.mnemonic.clearFields, field w f.1 f.2 = 0 := by
        rw [hopcode]; exact and_congr_right' (forall₂_congr fun f hf => by rw [hclear f hf])
    _ ↔ opcField w = r.mnemonic.opcode ∧ OperandsLegal w :=
        and_congr_right fun opc => by
          rw [List.forall_mem_append, ← reservedSet_eq_false_iff, clearFields_iff opc, OperandsLegal]

/-! ## Decoding selects the one row (30_encoding.md R85, R87) -/

theorem selects_unique {r r' : Row} {w : Word} (hr : r ∈ rows) (hr' : r' ∈ rows) (h : r.selects w = true)
    (h' : r'.selects w = true) : r = r' :=
  row_eq_of_opcode r hr r' hr' (((selects_iff hr w).1 h).1.symm.trans ((selects_iff hr' w).1 h').1)

theorem decode_eq_some_iff {w : Word} {i : Instr} :
    decode w = some i ↔ ∃ r ∈ rows, r.selects w = true ∧ instrOf r.mnemonic w = i := by
  rw [decode, Option.map_eq_some_iff]
  constructor
  · rintro ⟨r, found, rfl⟩
    exact ⟨r, List.mem_of_find?_eq_some found, List.find?_some (p := (Row.selects · w)) found, rfl⟩
  · rintro ⟨r, hr, h, rfl⟩
    obtain ⟨r', found⟩ := Option.isSome_iff_exists.1 ((List.find?_isSome (p := (Row.selects · w))).2 ⟨r, hr, h⟩)
    obtain rfl := selects_unique hr (List.mem_of_find?_eq_some found) h (List.find?_some (p := (Row.selects · w)) found)
    exact ⟨r, found, rfl⟩

theorem decode_isSome_iff_row (w : Word) : (decode w).isSome = true ↔ ∃ r ∈ rows, r.selects w = true := by
  rw [Option.isSome_iff_exists]
  simp only [decode_eq_some_iff]
  exact ⟨fun ⟨_, r, hr, h, _⟩ => ⟨r, hr, h⟩, fun ⟨r, hr, h⟩ => ⟨_, r, hr, h, rfl⟩⟩

/-- A word is legal when it has an opcode of the map and R85 has nothing against its other bits. -/
theorem decode_isSome_iff (w : Word) : (decode w).isSome = true ↔ opcField w < 6 ∧ OperandsLegal w := by
  rw [decode_isSome_iff_row]
  constructor
  · rintro ⟨r, hr, h⟩
    obtain ⟨opc, legal⟩ := (selects_iff hr w).1 h
    exact ⟨opc ▸ r.mnemonic.opcode_lt, legal⟩
  · rintro ⟨opc, legal⟩
    obtain ⟨m, hm⟩ := exists_mnemonic_of_opcode opc
    obtain ⟨r, hr, rfl⟩ := exists_row m
    exact ⟨r, hr, (selects_iff hr w).2 ⟨hm, legal⟩⟩

/-! ## The word of a command (30_encoding.md R81) -/

theorem reg_shift_toNat (r : Reg) {k : Nat} (hk : k ≤ 29) : (BitVec.ofNat 32 r.val <<< k).toNat = r.val * 2 ^ k := by
  have small : r.val * 2 ^ k < 2 ^ 32 :=
    calc r.val * 2 ^ k < 2 ^ 3 * 2 ^ k := Nat.mul_lt_mul_of_pos_right r.isLt (by positivity)
      _ = 2 ^ (3 + k) := (Nat.pow_add 2 3 k).symm
      _ ≤ 2 ^ 32 := Nat.pow_le_pow_right (by norm_num) (by omega)
  rw [BitVec.toNat_shiftLeft, BitVec.toNat_ofNat, Nat.mod_eq_of_lt (a := r.val) (by omega), Nat.shiftLeft_eq,
    Nat.mod_eq_of_lt small]

theorem or_mul_two_pow {a b k : Nat} (ha : a < 2 ^ k) : a ||| b * 2 ^ k = a + b * 2 ^ k := by
  rw [Nat.or_comm, ← Nat.shiftLeft_eq, ← Nat.shiftLeft_add_eq_or_of_lt ha, Nat.add_comm]

/-- The fields of a packed word do not overlap, so `pack` adds them up. -/
theorem pack_toNat {opc : Nat} (h : opc < 64) (rd rs1 rs2 rs3 : Reg) : (pack opc rd rs1 rs2 rs3).toNat =
    opc + rd.val * 2 ^ 8 + rs1.val * 2 ^ 12 + rs2.val * 2 ^ 16 + rs3.val * 2 ^ 20 := by
  simp only [pack, BitVec.toNat_or, BitVec.toNat_ofNat, reg_shift_toNat _ (by norm_num : 8 ≤ 29),
    reg_shift_toNat _ (by norm_num : 12 ≤ 29), reg_shift_toNat _ (by norm_num : 16 ≤ 29),
    reg_shift_toNat _ (by norm_num : 20 ≤ 29)]
  rw [Nat.mod_eq_of_lt (by omega), or_mul_two_pow (k := 8) (by omega), or_mul_two_pow (k := 12) (by omega),
    or_mul_two_pow (k := 16) (by omega), or_mul_two_pow (k := 20) (by omega)]

theorem regFields_pack {opc : Nat} (h : opc < 64) (rd rs1 rs2 rs3 : Reg) :
    rdField (pack opc rd rs1 rs2 rs3) = rd ∧ rs1Field (pack opc rd rs1 rs2 rs3) = rs1 ∧
      rs2Field (pack opc rd rs1 rs2 rs3) = rs2 ∧ rs3Field (pack opc rd rs1 rs2 rs3) = rs3 := by
  simp only [Fin.ext_iff, rdField, rs1Field, rs2Field, rs3Field, regField_val, field, pack_toNat h]
  omega

/-- A word with no reserved bit set is packed from its fields. -/
theorem pack_fields {w : Word} (reserved : reservedSet w = false) :
    pack (opcField w) (rdField w) (rs1Field w) (rs2Field w) (rs3Field w) = w := by
  have opc : opcField w < 64 := Nat.mod_lt _ (by norm_num)
  apply BitVec.eq_of_toNat_eq
  simp only [reservedSet_eq_false_iff, reservedFields, List.forall_mem_cons, field] at reserved
  rw [pack_toNat opc]
  simp only [opcField, rdField, rs1Field, rs2Field, rs3Field, regField_val, field]
  omega

/-- The row of a command, by its mnemonic. -/
def Instr.mnemonic : Instr → Mnemonic
  | .nop => .nop
  | .modexp _ _ _ _ => .modexp
  | .modinv _ _ _ => .modinv
  | .isprime _ => .isprime
  | .genprime _ _ => .genprime
  | .keygen _ _ => .keygen

theorem Instr.opcode_eq (i : Instr) : i.opcode = i.mnemonic.opcode := by
  cases i <;> rfl

/-- Reading the fields of the word of a command gives back its operands. -/
theorem instrOf_encode (i : Instr) : instrOf i.mnemonic (encode i) = i := by
  cases i <;> simp [Instr.mnemonic, instrOf, encode, Instr.opcode, regFields_pack]

/-- The word of a command has its opcode and no reserved bit set. -/
theorem encode_fields (i : Instr) : opcField (encode i) = i.opcode ∧ reservedSet (encode i) = false :=
  match i with
  | .nop => Laws.EncodedFields.nop
  | .modexp rd rs1 rs2 rs3 => Laws.EncodedFields.modexp rd rs1 rs2 rs3
  | .modinv rd rs1 rs2 => Laws.EncodedFields.modinv rd rs1 rs2
  | .isprime rs1 => Laws.EncodedFields.isprime rs1
  | .genprime rd rs1 => Laws.EncodedFields.genprime rd rs1
  | .keygen rd rs1 => Laws.EncodedFields.keygen rd rs1

theorem operandsLegal_encode {i : Instr} (wf : i.wf = true) : OperandsLegal (encode i) := by
  obtain ⟨opc, reserved⟩ := encode_fields i
  refine ⟨reserved, ?_, fun keygen => ?_⟩
  · simp only [unusedSet, opc]
    cases i <;> simp [encode, Instr.opcode, regFields_pack]
  · rw [opc] at keygen
    cases i with
    | keygen rd rs1 => simpa [encode, Instr.opcode, regFields_pack, Instr.wf] using wf
    | nop | modexp | modinv | isprime | genprime => cases keygen

/-- Settles O6: the word of a command selects the row of its mnemonic, and its fields are the command's operands. -/
theorem decodeOfEncode : Obligations.DecodeOfEncode := by
  intro i wf
  obtain ⟨r, hr, hm⟩ := exists_row i.mnemonic
  have selected : r.selects (encode i) = true := by
    rw [selects_iff hr, hm, ← i.opcode_eq]
    exact ⟨(encode_fields i).1, operandsLegal_encode wf⟩
  exact decode_eq_some_iff.2 ⟨r, hr, selected, by rw [hm, instrOf_encode]⟩

/-- What the decoder reads from a legal word has that word: the fields it leaves out are 0. -/
theorem encode_instrOf {m : Mnemonic} {w : Word} (opc : opcField w = m.opcode) (legal : OperandsLegal w) :
    encode (instrOf m w) = w := by
  obtain ⟨reserved, unused, -⟩ := legal
  have packed : encode (instrOf m w) = pack (opcField w) (rdField w) (rs1Field w) (rs2Field w) (rs3Field w) := by
    simp only [unusedSet, opc] at unused
    rw [opc]
    cases m <;> simp_all [Mnemonic.opcode, instrOf, encode, Instr.opcode]
  rw [packed, pack_fields reserved]

theorem wf_instrOf {m : Mnemonic} {w : Word} (opc : opcField w = m.opcode) (legal : OperandsLegal w) :
    (instrOf m w).wf = true := by
  obtain ⟨-, -, dest⟩ := legal
  cases m with
  | keygen => exact dest opc
  | nop | modexp | modinv | isprime | genprime => rfl

/-- Settles O7: a word that selects a row is packed from the fields which that row's command takes. -/
theorem encodeOfDecode : Obligations.EncodeOfDecode := by
  intro w i decoded
  obtain ⟨r, hr, selected, rfl⟩ := decode_eq_some_iff.1 decoded
  obtain ⟨opc, legal⟩ := (selects_iff hr w).1 selected
  exact ⟨wf_instrOf opc legal, encode_instrOf opc legal⟩

/-! ## The illegal words -/

theorem keygenDest_eq_false_iff (rd : Reg) : keygenDest rd = false ↔ rd ≠ 0 ∧ rd ≠ 4 := by
  revert rd; decide

/-- The words that do not decode are those of R85's list. -/
theorem decode_eq_none_iff (w : Word) : decode w = none ↔
    6 ≤ opcField w ∨ reservedSet w = true ∨ unusedSet w = true ∨ opcField w = 5 ∧ rdField w ≠ 0 ∧ rdField w ≠ 4 := by
  rw [← Option.not_isSome_iff_eq_none, decode_isSome_iff, OperandsLegal, ← keygenDest_eq_false_iff]
  simp only [not_and_or, not_lt, Classical.not_imp, Bool.not_eq_false, Bool.not_eq_true]

theorem opcField_eq (w : Word) : opcField w = w.toNat % 2 ^ 6 := by
  rw [opcField, field, Nat.pow_zero, Nat.div_one]

/-- Settles O9, by running the decoder on each word. -/
theorem representativeWordsDecode : Obligations.RepresentativeWordsDecode := by
  unfold Obligations.RepresentativeWordsDecode
  decide

end Sys2Proof

namespace Sys2Proof.Machine

/-- A write of an illegal word to CMD completes at once (40_control.md R101). -/
theorem writeCmd_illegal {w : Word} {s : State} (idle : s.busy = false) (illegal : decode w = none) :
    writeCmd w s = s.finish .illegal := by
  simp [writeCmd, idle, illegal]

/-- Settles O8: the rows exclude each other, and a write of an illegal word is the completion with ILLEGAL. -/
theorem legalWordsAreThoseOfOneRow : Obligations.LegalWordsAreThoseOfOneRow := by
  refine ⟨fun w => ?_, fun w => ?_, fun w s illegal idle => ⟨_, rfl, ?_⟩, fun w s busy => ?_⟩
  · rw [decode_isSome_iff_row]
    exact ⟨fun ⟨r, hr, h⟩ => ⟨r, ⟨hr, h⟩, fun r' ⟨hr', h'⟩ => selects_unique hr' hr h' h⟩, fun ⟨r, h, _⟩ => ⟨r, h⟩⟩
  · rw [decode_eq_none_iff, opcField_eq]
  · rw [busWrite_cmd, writeCmd_illegal idle illegal]
    exact ⟨completed_finish _ s, rfl, rfl, engineKept_finish _ s, drawsKept_finish _ s⟩
  · rw [busWrite_cmd, writeCmd, if_pos busy]; rfl

end Sys2Proof.Machine
end

section
/-! PROOFS. The line that the disassembler writes for a command is assembled to it (30_encoding.md R88). -/

namespace Sys2Proof.Machine

/-! ## Blanks -/

/-- Blanks before a text are trimmed off. -/
theorem trimBlanks_blank_cons (t : List Char) : trimBlanks (' ' :: t) = trimBlanks t := by
  simp [trimBlanks, isBlank]

/-- A text with no blank at either end is not trimmed. -/
theorem trimBlanks_eq_self {c d : Char} {t u : List Char} (starts : t = c :: u) (ends : ∃ v, t = v ++ [d])
    (hc : isBlank c = false) (hd : isBlank d = false) : trimBlanks t = t := by
  obtain ⟨v, hv⟩ := ends
  rw [trimBlanks, starts, List.dropWhile_cons_of_neg (by simp [hc]), ← starts, hv, List.reverse_concat,
    List.dropWhile_cons_of_neg (by simp [hd]), ← List.reverse_concat, List.reverse_reverse]

/-! ## Register names -/

theorem regName_chars (r : Reg) : ∀ c ∈ regName r, isBlank c = false ∧ c ≠ ',' ∧ c ≠ ';' := by
  fin_cases r <;> simp [regName, isBlank]

theorem blank_regName_no_comma (r : Reg) : ∀ c ∈ ' ' :: regName r, c ≠ ',' :=
  List.forall_mem_cons.2 ⟨by decide, fun c hc => (regName_chars r c hc).2.1⟩

theorem parseReg_regName (r : Reg) : parseReg (regName r) = some r := by
  revert r; decide

theorem trimBlanks_regName (r : Reg) : trimBlanks (regName r) = regName r := by
  revert r; decide

/-! ## Operands -/

theorem splitCommas_append_comma {t : List Char} (h : ∀ c ∈ t, c ≠ ',') (rest : List Char) :
    splitCommas (t ++ ',' :: rest) = t :: splitCommas rest := by
  induction t with
  | nil => simp [splitCommas]
  | cons c t ih =>
    rw [List.forall_mem_cons] at h
    simp [splitCommas, h.1, ih h.2]

theorem splitCommas_of_no_comma {t : List Char} (h : ∀ c ∈ t, c ≠ ',') : splitCommas t = [t] := by
  induction t with
  | nil => rfl
  | cons c t ih =>
    rw [List.forall_mem_cons] at h
    simp [splitCommas, h.1, ih h.2]

theorem parseRegs_blank_regName_cons (r : Reg) (ts : List (List Char)) :
    parseRegs ((' ' :: regName r) :: ts) = (parseRegs ts).map (r :: ·) := by
  rw [parseRegs, trimBlanks_blank_cons, trimBlanks_regName, parseReg_regName]
  cases parseRegs ts <;> rfl

/-- The names of registers, as `disassemble` writes them, read back. -/
theorem parseRegs_showRegs (r : Reg) (rs : List Reg) :
    parseRegs (splitCommas (' ' :: showRegs (r :: rs))) = some (r :: rs) := by
  induction rs generalizing r with
  | nil =>
    rw [showRegs, splitCommas_of_no_comma (blank_regName_no_comma r), parseRegs_blank_regName_cons]
    rfl
  | cons r' rs ih =>
    have shape : ' ' :: showRegs (r :: r' :: rs) = (' ' :: regName r) ++ ',' :: (' ' :: showRegs (r' :: rs)) := by
      simp [showRegs]
    rw [shape, splitCommas_append_comma (blank_regName_no_comma r), parseRegs_blank_regName_cons, ih]
    rfl

theorem showRegs_no_semicolon (rs : List Reg) : ∀ c ∈ showRegs rs, c ≠ ';' := by
  induction rs with
  | nil => simp [showRegs]
  | cons r rs ih =>
    have name : ∀ c ∈ regName r, c ≠ ';' := fun c hc => (regName_chars r c hc).2.2
    cases rs with
    | nil => exact name
    | cons r' rs =>
      simp only [showRegs, List.forall_mem_append, List.forall_mem_cons] at ih ⊢
      exact ⟨⟨name, by decide, by decide, by simp⟩, ih⟩

/-- The last character of a register list is no blank. -/
theorem showRegs_ends (r : Reg) (rs : List Reg) : ∃ v d, showRegs (r :: rs) = v ++ [d] ∧ isBlank d = false := by
  induction rs generalizing r with
  | nil => exact ⟨['x'], _, rfl, (regName_chars r _ (by simp [regName])).1⟩
  | cons r' rs ih =>
    obtain ⟨v, d, hv, hd⟩ := ih r'
    exact ⟨regName r ++ [',', ' '] ++ v, d, by simp [showRegs, hv], hd⟩

theorem trimBlanks_showRegs_ne_nil (r : Reg) (rs : List Reg) : trimBlanks (' ' :: showRegs (r :: rs)) ≠ [] := by
  obtain ⟨v, d, hv, hd⟩ := showRegs_ends r rs
  obtain ⟨u, hu⟩ : ∃ u, showRegs (r :: rs) = 'x' :: u := by cases rs <;> exact ⟨_, rfl⟩
  rw [trimBlanks_blank_cons, trimBlanks_eq_self hu ⟨v, hv⟩ (by decide) hd, hu]
  exact List.cons_ne_nil _ _

theorem parseOperands_showRegs (r : Reg) (rs : List Reg) :
    parseOperands (' ' :: showRegs (r :: rs)) = some (r :: rs) := by
  rw [parseOperands, if_neg (trimBlanks_showRegs_ne_nil r rs), parseRegs_showRegs]

/-! ## Lines -/

/-- A mnemonic, a blank and register names are assembled to the command that `build` makes of them. -/
theorem assemble_line {m : List Char} (hm : m ≠ []) (plain : ∀ c ∈ m, isBlank c = false ∧ c ≠ ';') (r : Reg)
    (rs : List Reg) {i : Instr} (built : build (m.map Char.toLower) (r :: rs) = .ok i) :
    assemble (m ++ ' ' :: showRegs (r :: rs)) = .ok (some i) := by
  have noComment : (m ++ ' ' :: showRegs (r :: rs)).takeWhile (· != ';') = m ++ ' ' :: showRegs (r :: rs) := by
    rw [List.takeWhile_eq_self_iff, List.forall_mem_append, List.forall_mem_cons]
    exact ⟨fun c hc => by simp [plain c hc], by decide, fun c hc => by simp [showRegs_no_semicolon _ c hc]⟩
  have notTrimmed : trimBlanks (m ++ ' ' :: showRegs (r :: rs)) = m ++ ' ' :: showRegs (r :: rs) := by
    obtain ⟨v, d, hv, hd⟩ := showRegs_ends r rs
    obtain ⟨c, u, rfl⟩ := List.exists_cons_of_ne_nil hm
    exact trimBlanks_eq_self rfl ⟨c :: u ++ ' ' :: v, by simp [hv]⟩ (plain c List.mem_cons_self).1 hd
  have word : ∀ c ∈ m, (!isBlank c) = true := fun c hc => by simp [plain c hc]
  have mnemonic : (m ++ ' ' :: showRegs (r :: rs)).takeWhile (fun c => !isBlank c) = m := by
    rw [List.takeWhile_append_of_pos word]
    simp [isBlank]
  have operands : (m ++ ' ' :: showRegs (r :: rs)).dropWhile (fun c => !isBlank c) = ' ' :: showRegs (r :: rs) := by
    rw [List.dropWhile_append_of_pos word]
    simp [isBlank]
  have nonempty : m ++ ' ' :: showRegs (r :: rs) ≠ [] := by simp
  simp only [assemble, noComment, notTrimmed, mnemonic, operands, nonempty, if_false, parseOperands_showRegs, built]

/-- Settles O10: every line but that of NOP is a mnemonic, a blank and register names. -/
theorem assembleOfDisassemble : Obligations.AssembleOfDisassemble := by
  intro i wf
  cases i with
  | nop => decide
  | modexp rd rs1 rs2 rs3 =>
    exact assemble_line (m := ['M', 'O', 'D', 'E', 'X', 'P']) (by simp) (by simp [isBlank]) rd [rs1, rs2, rs3] rfl
  | modinv rd rs1 rs2 =>
    exact assemble_line (m := ['M', 'O', 'D', 'I', 'N', 'V']) (by simp) (by simp [isBlank]) rd [rs1, rs2] rfl
  | isprime rs1 =>
    exact assemble_line (m := ['I', 'S', 'P', 'R', 'I', 'M', 'E']) (by simp) (by simp [isBlank]) rs1 [] rfl
  | genprime rd rs1 =>
    exact assemble_line (m := ['G', 'E', 'N', 'P', 'R', 'I', 'M', 'E']) (by simp) (by simp [isBlank]) rd [rs1] rfl
  | keygen rd rs1 =>
    exact assemble_line (m := ['K', 'E', 'Y', 'G', 'E', 'N']) (by simp) (by simp [isBlank]) rd [rs1] (if_pos wf)

end Sys2Proof.Machine
end

section
/-! PROOFS. The host's read of an operand register, RDX (30_encoding.md R90). -/

namespace Sys2Proof.Machine

/-- What a read returns does not depend on the answers before it. -/
theorem busRead_respond (off : Offset) (s : State) (r : Response) : busRead off (s.respond r) = busRead off s := rfl

/-- A sequence of aligned reads returns the words and changes nothing but the answers. -/
theorem deliverAll_reads {offs : List Offset} (ha : ∀ off ∈ offs, off.toNat % 4 = 0) {s : State} (hr : s.rstN = true) :
    deliverAll (offs.map fun off => .bus (readTxn off)) s =
      .next { s with responses := s.responses ++ offs.map fun off => .data (busRead off s) } := by
  induction offs generalizing s with
  | nil => simp
  | cons off offs ih =>
    rw [List.forall_mem_cons] at ha
    rw [List.map_cons, deliverAll_cons, readTxn, deliver_read hr ha.1, andThen_next, ih ha.2 (by exact hr)]
    simp only [busRead_respond]
    simp [State.respond]

theorem limb_zero (v : Nat) : limb v 0 = v % 2 ^ 32 := by
  rw [limb_eq]; simp

theorem limb_succ (v j : Nat) : limb v (j + 1) = limb (v / 2 ^ 32) j := by
  rw [limb_eq, limb_eq, Nat.div_div_eq_div_mul, ← Nat.pow_add, Nat.mul_succ, Nat.add_comm]

theorem limbWord_toNat (v j : Nat) : (limbWord v j).toNat = limb v j := by
  rw [limbWord, BitVec.toNat_ofNat, Nat.mod_eq_of_lt (limb_lt v j)]

/-- The first `n` limbs of a value join to its low `32n` bits. -/
theorem joinWords_limbs (v n : Nat) : joinWords ((List.range n).map (limbWord v)) = v % 2 ^ (32 * n) := by
  induction n generalizing v with
  | zero => simp [joinWords, Nat.mod_one]
  | succ n ih =>
    have shifted : limbWord v ∘ Nat.succ = limbWord (v / 2 ^ 32) := by
      funext j
      exact congrArg (BitVec.ofNat 32) (limb_succ v j)
    rw [List.range_succ_eq_map, List.map_cons, List.map_map, joinWords, shifted, ih, limbWord_toNat, limb_zero,
      ← Nat.mod_mul, ← Nat.pow_add, Nat.mul_succ, Nat.add_comm]

/-- Settles O24: the reads return the limbs of the register, all of which are present. -/
theorem rdxReadsTheRegister : Obligations.RdxReadsTheRegister := by
  intro s i hr legal hv
  obtain ⟨whole, -, widest⟩ := legal
  refine ⟨(List.range (limbCount s.params)).map (limbWord (s.X.get i)), ?_, ?_, ?_⟩
  · have aligned : ∀ off ∈ (List.range (limbCount s.params)).map (limbOffset i), off.toNat % 4 = 0 := by
      rw [List.forall_mem_map]
      intro j hj
      rw [limbOffset_toNat (by rw [List.mem_range, limbCount] at hj; omega)]
      omega
    have words : ∀ j ∈ List.range (limbCount s.params), busRead (limbOffset i j) s = limbWord (s.X.get i) j := by
      intro j hj
      rw [List.mem_range] at hj
      rw [busRead_limb s (by unfold limbCount at hj; omega), if_pos hj, limbWord]
    have events : (HostOp.rdx i).events s.params =
        ((List.range (limbCount s.params)).map (limbOffset i)).map fun off => .bus (readTxn off) := by
      simp [HostOp.events, HostOp.expand, readTxns]
    have data := List.map_congr_left fun j hj => congrArg Response.data (words j hj)
    rw [events, deliverAll_reads aligned hr, List.map_map, List.map_map, Function.comp_def, data]
    rfl
  · simp [limbCount]
  · rw [joinWords_limbs, limbCount, Nat.mul_div_cancel' (Nat.dvd_of_mod_eq_zero whole), Nat.mod_eq_of_lt hv]

end Sys2Proof.Machine
end

section
/-! PROOFS. The rules of 40_control.md on a single step: which command runs, what a read returns, what a write to CMD
does, and what a running command shows. -/

namespace Sys2Proof.Machine

/-! ## Scheduling (40_control.md R100, R104) -/

theorem step_of_inbox_nil {s : State} (inbox : s.inbox = []) : step s = deliver .engine s := by
  rw [step, takeEvent, inbox]

theorem step_of_inbox_cons {s : State} {e : Event} {rest : List Event} (inbox : s.inbox = e :: rest) :
    step s = deliver e (s.setInbox rest) := by
  rw [step, takeEvent, inbox]

/-- Settles O11: the event taken is the engine's, whose step is `exec` of the latched command. -/
theorem stepRunsDecodedCommand : Obligations.StepRunsDecodedCommand := by
  intro s i rst busy latched
  constructor
  · intro inbox
    rw [step_of_inbox_nil inbox]
    exact engineStep_eq_exec rst busy latched
  · intro rest inbox
    rw [step_of_inbox_cons inbox]
    exact engineStep_eq_exec (s := s.setInbox rest) rst busy latched

theorem wordOfTable_toNat (w : Word) : wordOfTable 32 w.toNat = some w := by
  simp [wordOfTable, Nat.mod_eq_of_lt w.isLt, w.isLt]

theorem withFetchWord_toNat (s : State) (w : Word) : s.withFetchWord 32 w.toNat = s.placeCommand w := by
  rw [State.withFetchWord, wordOfTable_toNat]

/-- Settles O12: placing a word accepts it and puts the engine first in the inbox. -/
theorem placedWordRunsNext : Obligations.PlacedWordRunsNext := by
  intro s w i legal
  rw [withFetchWord_toNat, step_of_inbox_cons (s.placeCommand_inbox w)]
  exact engineStep_eq_exec (s := (s.placeCommand w).setInbox s.inbox) rfl (by simp) legal

/-! ## Every state of the invariant steps on (40_control.md R104, R111) -/

/-- A command in a controller state it passes through is dispatched. -/
theorem Running.exec_next {i : Instr} {s : State} (run : Running i s) : ∃ t, exec i s = .next t := by
  cases i with
  | nop => exact ⟨_, exec_nop_next.2 ⟨run, rfl⟩⟩
  | modexp rd rs1 rs2 rs3 => exact ⟨_, exec_modexp_next.2 ⟨run, rfl⟩⟩
  | modinv rd rs1 rs2 => exact ⟨_, exec_modinv_next.2 ⟨run, rfl⟩⟩
  | isprime rs1 => exact ⟨_, exec_isprime_next.2 ⟨run, rfl⟩⟩
  | genprime rd rs1 =>
    rcases run with start | ⟨draw | ⟨test, -⟩, -⟩
    · exact ⟨_, exec_genprime_next.2 (.inl ⟨start, rfl⟩)⟩
    · exact ⟨_, exec_genprime_next.2 (.inr (.inl ⟨draw, rfl⟩))⟩
    · exact ⟨_, exec_genprime_next.2 (.inr (.inr ⟨test, rfl⟩))⟩
  | keygen rd rs1 =>
    rcases run with start | ⟨draw | ⟨test, -⟩ | ⟨derive, -⟩, -⟩
    · exact ⟨_, exec_keygen_next.2 (.inl ⟨start, rfl⟩)⟩
    · exact ⟨_, exec_keygen_next.2 (.inr (.inl ⟨draw, rfl⟩))⟩
    · exact ⟨_, exec_keygen_next.2 (.inr (.inr (.inl ⟨test, rfl⟩)))⟩
    · exact ⟨_, exec_keygen_next.2 (.inr (.inr (.inr ⟨derive, rfl⟩)))⟩

/-- Out of reset no event stops the machine. -/
theorem StateInv.deliver_next {s : State} (inv : StateInv s) (rst : s.rstN = true) (e : Event) :
    ∃ t, deliver e s = .next t := by
  cases e with
  | bus x => exact ⟨_, deliver_bus x rst⟩
  | engine =>
    by_cases idle : s.fsm = .idle
    · exact ⟨s, engineStep_idle idle⟩
    · obtain ⟨i, latched, run⟩ := inv.latched idle
      obtain ⟨t, h⟩ := run.exec_next
      exact ⟨t, (engineStep_eq_exec rst idle latched).trans h⟩
  | resetAssert => exact ⟨_, rfl⟩
  | resetRelease => exact ⟨_, rfl⟩
  | entropy w => exact ⟨_, rfl⟩

/-- Settles O5: a step delivers an event, and the latched command runs in a state its rules dispatch. -/
theorem invariantStatesStepOn : Obligations.InvariantStatesStepOn := by
  intro s inv rst
  rcases step_cases s with ⟨-, h⟩ | ⟨e, rest, -, h⟩ <;> rw [h]
  · exact inv.deliver_next rst .engine
  · exact (inv.setInbox rest).deliver_next rst e

/-- Settles O44: an engine step that is no completion shows the host nothing. -/
theorem runningCommandIsInvisible : Obligations.RunningCommandIsInvisible := by
  intro i s t h running
  rcases (execFrame_of_next h).ends with ⟨c, -, -, -, idle, -⟩ | ⟨-, -, kept⟩
  · exact absurd idle running
  · exact kept

/-! ## Reads (40_control.md R107) -/

theorem bitWord_toNat (b : Bool) : (bitWord b).toNat = b.toNat := by
  cases b <;> rfl

/-- The fields of STATUS do not overlap (10_state.md R26). -/
theorem statusWord_toNat (b : Block) :
    b.statusWord.toNat =
      b.err.toNat * 2 ^ 8 + b.coll.toNat * 2 ^ 3 + b.prime.toNat * 2 ^ 2 + b.done.toNat * 2 + b.busy.toNat := by
  unfold Block.statusWord
  generalize b.err = err, b.coll = coll, b.prime = prime, b.done = done, b.busy = busy
  revert err coll prime done busy
  decide

/-- A limb's data, present or not (20_memory.md R62, 40_control.md R107). -/
theorem busRead_limb_toNat {i : Reg} {j : Nat} (s : State) (hj : j < 256) :
    (busRead (limbOffset i j) s).toNat =
      if j < s.params.width / 32 then s.X.get i / 2 ^ (32 * j) % 2 ^ 32 else 0 := by
  by_cases present : j < s.params.width / 32
  · rw [busRead_present_limb hj present, limb_eq, if_pos present]
  · rw [busRead_limb s hj, limbCount, if_neg present, if_neg present]
    rfl

/-- Settles O13: what the offset names decides the data. -/
theorem readReturnsTheTable : Obligations.ReadReturnsTheTable := by
  intro s off rst ha
  have literal {n : Nat} (h : off.toNat = n) : off = BitVec.ofNat 14 n := by
    rw [← h, BitVec.ofNat_toNat, BitVec.setWidth_eq]
  refine ⟨busRead off s, deliver_read rst ha, ?_, ?_, ?_, ?_, ?_, ?_, ?_⟩
  · intro h
    rw [literal h]; rfl
  · intro h
    rw [literal h]; exact configWord_toNat s.params
  · intro h
    rw [literal h]; exact bitWord_toNat s.ie
  · intro h
    rw [literal h]; exact statusWord_toNat s.toBlock
  · intro h
    rw [literal h]; rfl
  · intro i j hj h
    rw [literal h]; exact busRead_limb_toNat s hj
  · intro h
    rw [busRead_unmapped s (target_unmapped h)]; rfl

/-! ## Writes to CMD (40_control.md R101, R102, R103) -/

theorem writeCmd_busy {s : State} (w : Word) (busy : s.busy = true) : writeCmd w s = s.collide := if_pos busy

theorem writeCmd_accept {s : State} {w : Word} (idle : s.busy = false) (legal : decode w ≠ none) :
    writeCmd w s = s.accept w := by
  rcases writeCmd_cases w s with ⟨busy, -⟩ | ⟨-, illegal, -⟩ | ⟨-, -, e⟩
  · simp [idle] at busy
  · exact absurd illegal legal
  · exact e

/-- A write of CMD out of reset. -/
theorem deliver_write_cmd {s : State} (w : Word) (rst : s.rstN = true) :
    deliver (.bus (.write 0x010 4 0xF w)) s = .next ((writeCmd w s).respond .written) := by
  rw [deliver_write w rst (by decide), busWrite_cmd]

theorem writeCmd_responses (w : Word) (s : State) : (writeCmd w s).responses = s.responses := by
  rcases writeCmd_cases w s with ⟨-, e⟩ | ⟨-, -, e⟩ | ⟨-, -, e⟩ <;> rw [e] <;> rfl

/-- Settles O17: with no command running a write of CMD is the completion with ILLEGAL or the accept. -/
theorem cmdWriteAcceptsOrCompletesIllegal : Obligations.CmdWriteAcceptsOrCompletesIllegal := by
  intro s w rst idle
  refine ⟨writeCmd w s, ?_, fun illegal => ?_, fun legal => ?_⟩
  · rw [deliver_write_cmd w rst, State.respond, writeCmd_responses]
  · rw [writeCmd_illegal idle illegal]
    exact ⟨completed_finish _ s, rfl, rfl, engineKept_finish _ s, drawsKept_finish _ s⟩
  · rw [writeCmd_accept idle legal]
    rfl

/-- Settles O18: the collision does not look at the word. -/
theorem cmdWriteWhileBusyCollides : Obligations.CmdWriteWhileBusyCollides := by
  intro s w rst busy
  rw [deliver_write_cmd w rst, writeCmd_busy w busy]
  rfl

/-! ## NOP (40_control.md R109) -/

theorem decode_eq_nop_iff (w : Word) : decode w = some .nop ↔ w = 0 := by
  constructor
  · intro h
    exact (encodeOfDecode w .nop h).2.symm
  · rintro rfl
    exact decodeOfEncode .nop rfl

/-- A write of the abort bit with a command running is the completion with ABORTED. -/
theorem writeCtrl_of_abort {v : Word} {s : State} (abort : v.getLsbD 1 = true) (busy : s.busy = true) :
    writeCtrl v s = (s.setIe (v.getLsbD 0)).finish .aborted := by
  rw [writeCtrl, if_pos abort, State.abort, State.setIe_busy, if_pos busy, completeErr_eq]

/-- Settles O32: NOP is the word 0, its step a completion with no write, and an abort a completion too. -/
theorem nopCompletes : Obligations.NopCompletes := by
  refine ⟨decode_eq_nop_iff, fun s start =>
    ⟨⟨completeOk [] s, exec_nop_next.2 ⟨start, rfl⟩, ?_⟩, fun busy => ⟨_, rfl, ?_⟩⟩⟩
  · exact ⟨completed_finish _ _, rfl, rfl, engineKept_completeOk _ s, drawsKept_completeOk _ s⟩
  · rw [busWrite_ctrl, writeCtrl_of_abort (by decide) busy]
    exact ⟨completed_finish _ _, rfl, rfl, rfl⟩

end Sys2Proof.Machine
end

section
/-! PROOFS. A command runs on the operands of its CMD write, whatever the host writes to CMD and to the windows after it
(40_control.md R102, R103, 20_memory.md R66). -/

namespace Sys2Proof.Machine

/-! ## Writes while a command runs -/

/-- CMD, or a limb of an operand window, present or not. -/
def CmdOrWindow (off : Offset) : Prop := off = 0x010 ∨ ∃ r j, j < 256 ∧ off = limbOffset r j

/-- A write there collides while a command runs: CMD, or a present limb of an operand window. -/
def Collides (p : Params) (off : Offset) : Prop := off = 0x010 ∨ ∃ r j, j < limbCount p ∧ off = limbOffset r j

/-- `s` with other values in `COLL` and in the answers kept by the host. -/
def State.withAnswers (s : State) (coll : Bool) (responses : List Response) : State :=
  { s with coll := coll, responses := responses }

/-- Of the limbs of the windows those that collide are the present ones: an index past the last window of 256 limbs, which
wraps, needs a width at which every limb is present. -/
theorem collides_limbOffset_iff {p : Params} {r : Reg} {j : Nat} (hj : j < 256) :
    Collides p (limbOffset r j) ↔ j < limbCount p := by
  refine ⟨?_, fun present => .inr ⟨r, j, present, rfl⟩⟩
  rintro (cmd | ⟨r', j', present, same⟩)
  · have named := congrArg target cmd
    rw [target_limbOffset hj, target_cmd] at named
    cases named
  · by_cases hj' : j' < 256
    · have named := congrArg target same
      rw [target_limbOffset hj, target_limbOffset hj', Target.limb.injEq] at named
      omega
    · omega

/-- A write to CMD or to a window while a command runs sets `COLL` at most. -/
theorem deliver_write_of_busy {s : State} {off : Offset} (v : Word) (rst : s.rstN = true) (busy : s.busy = true)
    (place : CmdOrWindow off) : ∃ coll, deliver (.bus (writeTxn off v)) s =
      .next (s.withAnswers coll (s.responses ++ [.written])) ∧
    (coll = true ↔ s.coll = true ∨ Collides s.params off) := by
  rw [writeTxn]
  rcases place with rfl | ⟨r, j, hj, rfl⟩
  · refine ⟨true, ?_, by simp [Collides]⟩
    rw [deliver_write_cmd v rst, writeCmd_busy v busy]
    rfl
  · have aligned : (limbOffset r j).toNat % 4 = 0 := by rw [limbOffset_toNat hj]; omega
    rw [deliver_write v rst aligned, busWrite_limb v s hj, collides_limbOffset_iff hj]
    rcases writeLimb_cases r j v s with ⟨absent, e⟩ | ⟨present, -, e⟩ | ⟨-, idle, -⟩
    · exact ⟨s.coll, by rw [e]; rfl, (or_iff_left absent.not_gt).symm⟩
    · exact ⟨true, by rw [e]; rfl, iff_of_true rfl (.inr present)⟩
    · simp [busy] at idle

/-- So does any list of such writes. -/
theorem deliverAll_writes_of_busy {ws : List (Offset × Word)} (places : ∀ x ∈ ws, CmdOrWindow x.1) {s : State}
    (rst : s.rstN = true) (busy : s.busy = true) : ∃ coll responses,
      deliverAll (ws.map fun x => .bus (writeTxn x.1 x.2)) s = .next (s.withAnswers coll responses) ∧
      (coll = true ↔ s.coll = true ∨ ∃ x ∈ ws, Collides s.params x.1) := by
  induction ws generalizing s with
  | nil => exact ⟨s.coll, s.responses, rfl, by simp⟩
  | cons x ws ih =>
    obtain ⟨place, places⟩ := List.forall_mem_cons.1 places
    obtain ⟨c, first, hc⟩ := deliver_write_of_busy x.2 rst busy place
    obtain ⟨c', responses, others, hc'⟩ :=
      ih places (s := s.withAnswers c (s.responses ++ [.written])) rst busy
    refine ⟨c', responses, ?_, ?_⟩
    · rw [List.map_cons, deliverAll_cons, first, andThen_next, others]
      rfl
    · rw [List.exists_mem_cons_iff, ← or_assoc, ← hc]
      exact hc'

/-! ## The command on its snapshot -/

theorem exec_modexp_start {s : State} (rd rs1 rs2 rs3 : Reg) (start : s.fsm = .start) (hC : 2 ≤ s.C) :
    exec (.modexp rd rs1 rs2 rs3) s = .next (completeOk [(rd, s.A ^ s.B % s.C)] s) := by
  refine exec_modexp_next.2 ⟨start, ?_⟩
  rcases modexpStart_cases rd s with ⟨small, -⟩ | ⟨-, e⟩
  · omega
  · rw [e, modexp_eq_pow_mod _ _ hC]

/-- The accept of a MODEXP takes its three operands. -/
theorem accept_modexp_snapshot (s : State) (rd rs1 rs2 rs3 : Reg) :
    (s.accept (encode (.modexp rd rs1 rs2 rs3))).A = s.X.get rs1 ∧
    (s.accept (encode (.modexp rd rs1 rs2 rs3))).B = s.X.get rs2 ∧
    (s.accept (encode (.modexp rd rs1 rs2 rs3))).C = s.X.get rs3 := by
  obtain ⟨-, f1, f2, f3⟩ := regFields_pack (opc := 1) (by norm_num) rd rs1 rs2 rs3
  simp [encode, Instr.opcode, f1, f2, f3]

/-- Settles O42: the accept, then the list of writes, then the dispatch on the latched word. -/
theorem commandRunsOnItsSnapshot : Obligations.CommandRunsOnItsSnapshot := by
  intro s i ws rst idle wf places
  have legal := decodeOfEncode i wf
  have accepted : deliver (.bus (writeTxn 0x010 (encode i))) s =
      .next ((s.accept (encode i)).respond .written) := by
    rw [writeTxn, deliver_write_cmd _ rst, writeCmd_accept idle (by simp [legal])]
  obtain ⟨coll, responses, writes, hcoll⟩ :=
    deliverAll_writes_of_busy places (s := (s.accept (encode i)).respond .written) rst rfl
  refine ⟨((s.accept (encode i)).respond .written).withAnswers coll responses, ?_, rfl, hcoll,
    engineStep_eq_exec rst Fsm.noConfusion legal, ?_⟩
  · rw [deliverAll_cons, accepted, andThen_next, writes]
  · rintro rd rs1 rs2 rs3 rfl hC
    obtain ⟨A, B, C⟩ := accept_modexp_snapshot s rd rs1 rs2 rs3
    refine ⟨_, exec_modexp_start rd rs1 rs2 rs3 rfl (hC.trans_eq C.symm), completed_finish _ _, ?_, ?_⟩
    · rw [← A, ← B, ← C]
      exact RegFile.get_set_same ..
    · exact fun r hr => completeOk_get _ _ r hr

end Sys2Proof.Machine
end

section
/-! PROOFS. A running GENPRIME ends on every fair schedule (40_control.md R100, 43_prime_generator.md R164, R165): a bound
on what is still ahead of it never grows, and the event it waits for makes it smaller. -/

namespace Sys2Proof.Machine

/-! ## Schedules -/

/-- On this schedule a command that runs in `s` ends. -/
def Ends (sched : Nat → Event) (s : State) : Prop := ∃ n t, trace sched s n = .next t ∧ t.fsm = .idle

/-- What is left of a schedule after its first event. -/
def laterEvents (sched : Nat → Event) (n : Nat) : Event := sched (n + 1)

theorem trace_succ_eq (sched : Nat → Event) (s : State) (n : Nat) :
    trace sched s (n + 1) = andThen (deliver (sched 0) s) (trace (laterEvents sched) · n) := by
  induction n with
  | zero =>
    rw [trace, trace, andThen_next]
    cases deliver (sched 0) s <;> rfl
  | succ n ih =>
    rw [trace, ih]
    cases deliver (sched 0) s <;> rfl

theorem Ends.of_deliver {sched : Nat → Event} {s t : State} (h : deliver (sched 0) s = .next t)
    (ends : Ends (laterEvents sched) t) : Ends sched s := by
  obtain ⟨n, u, run, idle⟩ := ends
  exact ⟨n + 1, u, by rw [trace_succ_eq, h, andThen_next, run], idle⟩

theorem EngineFair.later {sched : Nat → Event} (h : EngineFair sched) : EngineFair (laterEvents sched) := by
  intro n
  obtain ⟨m, le, hm⟩ := h (n + 1)
  obtain ⟨m, rfl⟩ := Nat.exists_eq_add_of_lt le
  exact ⟨n + m, by omega, hm⟩

theorem EntropySupplied.later {sched : Nat → Event} (h : EntropySupplied sched) :
    EntropySupplied (laterEvents sched) := by
  intro n
  obtain ⟨m, w, le, hm⟩ := h (n + 1)
  obtain ⟨m, rfl⟩ := Nat.exists_eq_add_of_lt le
  exact ⟨n + m, w, by omega, hm⟩

/-! ## What is ahead of a GENPRIME -/

/-- GP_DRAW without the words of a draw: the engine has nothing to do until the source offers more
(43_prime_generator.md R165). -/
def State.lacksWords (s : State) : Bool := s.fsm == .gpDraw && !s.entropyReady

/-- The event brings the command of `s` on: an entropy word where it lacks words, else a step of the engine. -/
def State.Awaits (s : State) : Event → Prop
  | .engine => s.lacksWords = false
  | .entropy _ => s.lacksWords = true
  | .bus _ | .resetAssert | .resetRelease => False

/-- A bound on the events a GENPRIME in `s` still awaits: the start step, the words, the draw and the walk, whose candidates
stay below `2^(gbits+1)` (43_prime_generator.md R164). -/
def State.ahead (s : State) : Nat :=
  match s.fsm with
  | .start => 2 ^ (s.A + 1) + wordsNeeded s.A + 2
  | .gpDraw => 2 ^ (s.gbits + 1) + (wordsNeeded s.gbits - s.entropy.length) + 1
  | .gpTest => 2 ^ (s.gbits + 1) - s.cand
  | .idle | .kgInv => 0

theorem State.Awaits.of_lacksWords_eq {s t : State} {e : Event} (h : s.Awaits e) (same : t.lacksWords = s.lacksWords) :
    t.Awaits e := by
  cases e with
  | engine | entropy => exact same.trans h
  | bus | resetAssert | resetRelease => exact h

theorem exists_awaited (s : State) {sched : Nat → Event} (engine : EngineFair sched) (entropy : EntropySupplied sched) :
    ∃ k, s.Awaits (sched k) := by
  cases lacks : s.lacksWords with
  | false =>
    obtain ⟨k, -, hk⟩ := engine 0
    exact ⟨k, by rw [hk]; exact lacks⟩
  | true =>
    obtain ⟨k, w, -, hk⟩ := entropy 0
    exact ⟨k, by rw [hk]; exact lacks⟩

/-- The event in which `s` gives `t` has brought the command on, or left all that counts and was not the one awaited. -/
def Advances (s : State) (e : Event) (t : State) : Prop :=
  t.ahead < s.ahead ∨ t.ahead = s.ahead ∧ t.lacksWords = s.lacksWords ∧ ¬ s.Awaits e

/-- An engine step of a GENPRIME ends it or brings it on, but for the hold in GP_DRAW. -/
theorem genprime_engine_advances {rd rs1 : Reg} {s t : State} (run : Running (.genprime rd rs1) s)
    (h : exec (.genprime rd rs1) s = .next t) : t.fsm = .idle ∨ Advances s .engine t := by
  rcases exec_genprime_next.1 h with ⟨start, rfl⟩ | ⟨draw, rfl⟩ | ⟨test, rfl⟩
  · rcases genprimeStart_cases s with ⟨-, e⟩ | ⟨-, -, e⟩ <;> rw [e]
    · exact .inl rfl
    · refine .inr (.inl ?_)
      simp only [State.ahead, start, State.beginDraw_fsm, State.beginDraw_gbits]
      omega
  · rcases candidateDraw_cases s with ⟨-, e⟩ | ⟨lacks, e⟩ <;> rw [e]
    · refine .inr (.inl ?_)
      have pos := Nat.two_pow_pos (s.gbits + 1)
      simp only [State.ahead, draw, State.takeCandidate_fsm, State.takeCandidate_gbits]
      omega
    · exact .inr (.inr ⟨rfl, rfl, by simp [State.Awaits, State.lacksWords, State.entropyReady, draw, lacks]⟩)
  · obtain ⟨⟨-, -, P, -, le, lt⟩, -⟩ := (running_genprime_gpTest test).1 run
    rcases candidateTest_cases (genprimePassed rd) s with ⟨-, e⟩ | ⟨-, e⟩ <;> rw [e]
    · exact .inl rfl
    · refine .inr (.inl ?_)
      simp only [State.ahead, test, State.nextCandidate_fsm, State.nextCandidate_gbits, State.nextCandidate_cand,
        State.setBases_fsm, State.setBases_gbits, State.setBases_cand]
      omega

theorem lacksWords_iff (s : State) :
    s.lacksWords = true ↔ s.fsm = .gpDraw ∧ s.entropy.length < wordsNeeded s.gbits := by
  simp [State.lacksWords, State.entropyReady]

/-- One more word brings on a GENPRIME that lacks words, and leaves every other as it was. -/
theorem entropy_advances (w : Word) (s : State) : Advances s (.entropy w) (s.offerEntropy w) := by
  cases lacks : s.lacksWords with
  | true =>
    obtain ⟨draw, few⟩ := (lacksWords_iff s).1 lacks
    left
    simp only [State.ahead, draw, State.offerEntropy_fsm, State.offerEntropy_gbits, State.offerEntropy_entropy,
      List.length_append, List.length_singleton]
    omega
  | false =>
    have enough (draw : s.fsm = .gpDraw) : wordsNeeded s.gbits ≤ s.entropy.length := by
      by_contra few
      simp [(lacksWords_iff s).2 ⟨draw, by omega⟩] at lacks
    refine .inr ⟨?_, ?_, by simp [State.Awaits, lacks]⟩
    · cases hf : s.fsm with
      | gpDraw =>
        have := enough hf
        simp only [State.ahead, hf, State.offerEntropy_fsm, State.offerEntropy_gbits, State.offerEntropy_entropy,
          List.length_append]
        omega
      | idle | start | gpTest | kgInv => simp [State.ahead, hf]
    · rw [lacks, Bool.eq_false_iff, Ne, lacksWords_iff]
      rintro ⟨draw, few⟩
      have := enough draw
      simp only [State.offerEntropy_gbits, State.offerEntropy_entropy, List.length_append] at few
      omega

/-- A transaction ends the running command, by an abort, or leaves all but `IE`, `DONE` and `COLL`. -/
theorem Txn.Outcome.of_busy {s t : State} {x : Txn} (h : x.Outcome s t) (busy : s.busy = true) :
    t.fsm = .idle ∨ ∃ ie done coll, t = { s with ie := ie, done := done, coll := coll } := by
  cases h with
  | abort => exact .inl rfl
  | nothing | setIe | status | collide => exact .inr ⟨_, _, _, rfl⟩
  | illegal _ idle | accept _ _ idle | limb _ _ _ _ idle => simp [busy] at idle

/-! ## A running GENPRIME -/

theorem StateInv.of_deliver {s t : State} {e : Event} (inv : StateInv s) (h : deliver e s = .next t) : StateInv t :=
  stepKeepsInvariant (s.setInbox (e :: s.inbox)) t (inv.setInbox _) h

theorem StateInv.running_latched {s : State} {i : Instr} (inv : StateInv s) (busy : s.fsm ≠ .idle)
    (latched : decode s.cmd = some i) : Running i s := by
  obtain ⟨j, latched', run⟩ := inv.latched busy
  obtain rfl : j = i := by simpa [latched'] using latched
  exact run

/-- GENPRIME runs in `s`. -/
structure GenprimeRuns (rd rs1 : Reg) (s : State) : Prop where
  inv : StateInv s
  rst : s.rstN = true
  busy : s.fsm ≠ .idle
  latched : decode s.cmd = some (.genprime rd rs1)

section
variable {rd rs1 : Reg} {s t : State} {e : Event} (run : GenprimeRuns rd rs1 s)
include run

/-- Every event ends the command, or leaves it running and advances it or loses nothing. -/
theorem GenprimeRuns.deliver_advances (h : deliver e s = .next t) :
    t.fsm = .idle ∨ t.rstN = true ∧ t.cmd = s.cmd ∧ Advances s e t := by
  cases e with
  | bus x =>
    rw [deliver_bus x run.rst] at h
    cases h
    rcases (x.outcome s).of_busy (run.inv.busy_iff.2 run.busy) with idle | ⟨ie, done, coll, effect⟩
    · exact .inl idle
    · rw [effect]
      exact .inr ⟨run.rst, rfl, .inr ⟨rfl, rfl, id⟩⟩
  | engine =>
    have runs := (engineStep_eq_exec run.rst run.busy run.latched).symm.trans h
    have kept := (execFrame_of_next runs).kept
    exact (genprime_engine_advances (run.inv.running_latched run.busy run.latched) runs).imp_right fun advances =>
      ⟨kept.rstN_eq.trans run.rst, kept.cmd_eq, advances⟩
  | resetAssert =>
    cases h
    exact .inl rfl
  | resetRelease =>
    cases h
    exact .inr ⟨rfl, rfl, .inr ⟨rfl, rfl, id⟩⟩
  | entropy w =>
    cases h
    exact .inr ⟨run.rst, rfl, entropy_advances w s⟩

/-- The command ends if it ends from every state in which the next event leaves it running. -/
theorem GenprimeRuns.ends_of_later {sched : Nat → Event}
    (later : ∀ t, GenprimeRuns rd rs1 t → Advances s (sched 0) t → Ends (laterEvents sched) t) : Ends sched s := by
  obtain ⟨t, h⟩ := run.inv.deliver_next run.rst (sched 0)
  refine .of_deliver h ?_
  by_cases idle : t.fsm = .idle
  · exact ⟨0, t, rfl, idle⟩
  · obtain ⟨rst, cmd, advances⟩ := (run.deliver_advances h).resolve_left idle
    exact later t ⟨run.inv.of_deliver h, rst, idle, by rw [cmd, run.latched]⟩ advances

/-- By induction on what is ahead, and within it on how far off the awaited event is. -/
theorem GenprimeRuns.ends {sched : Nat → Event} (engine : EngineFair sched) (entropy : EntropySupplied sched) :
    Ends sched s := by
  induction bound : s.ahead using Nat.strong_induction_on generalizing s sched with
  | _ n nearer =>
  obtain ⟨k, awaited⟩ := exists_awaited s engine entropy
  induction k generalizing s sched with
  | zero =>
    refine run.ends_of_later fun t run' advances => ?_
    rcases advances with less | ⟨-, -, other⟩
    · exact nearer _ (bound ▸ less) run' engine.later entropy.later rfl
    · exact absurd awaited other
  | succ k ih =>
    refine run.ends_of_later fun t run' advances => ?_
    rcases advances with less | ⟨same, lacks, -⟩
    · exact nearer _ (bound ▸ less) run' engine.later entropy.later rfl
    · refine ih run' engine.later entropy.later (same.trans bound) ?_
      exact awaited.of_lacksWords_eq lacks

end

/-- Settles O56: from the invariant GENPRIME runs in the sense above, and the schedule supplies all it awaits. -/
theorem genprimeEndsOnEveryFairSchedule : Obligations.GenprimeEndsOnEveryFairSchedule := by
  intro s rd rs1 sched inv rst busy latched entropyFair fair
  exact GenprimeRuns.ends ⟨inv, rst, busy, latched⟩ fair.1 (fair.2 entropyFair)

end Sys2Proof.Machine
end

section
/-! PROOFS. MODEXP and MODINV (41_arith.md R121, R122, R123, R124): the extended Euclidean loop keeps its remainders
multiples of `a` modulo `m`, and a start step writes the number that its function gives. -/

namespace Sys2Proof.Machine

/-! ## xgcd (41_arith.md R121) -/

/-- One division keeps "the remainder is `a` times its coefficient modulo `m`". -/
theorem modEq_mul_remainder {a m t0 t1 : Int} {r0 r1 : Nat} (h0 : a * t0 ≡ r0 [ZMOD m]) (h1 : a * t1 ≡ r1 [ZMOD m]) :
    a * (t0 - (r0 / r1 : Nat) * t1) ≡ (r0 % r1 : Nat) [ZMOD m] := by
  have remainder : ((r0 % r1 : Nat) : Int) = r0 - (r0 / r1 : Nat) * r1 := by
    rw [eq_sub_iff_add_eq]
    exact_mod_cast Nat.mod_add_div' r0 r1
  calc a * (t0 - (r0 / r1 : Nat) * t1)
      = a * t0 - (r0 / r1 : Nat) * (a * t1) := by ring
    _ ≡ r0 - (r0 / r1 : Nat) * r1 [ZMOD m] := h0.sub (h1.mul_left _)
    _ = (r0 % r1 : Nat) := remainder.symm

/-- The loop ends at the greatest common divisor of its remainders, and keeps each of them `a` times its coefficient
modulo `m`. -/
theorem xgcdLoop_spec {a m : Int} {fuel r0 r1 : Nat} {t0 t1 : Int} (hf : r1 < fuel) (h0 : a * t0 ≡ r0 [ZMOD m])
    (h1 : a * t1 ≡ r1 [ZMOD m]) :
    (xgcdLoop fuel r0 r1 t0 t1).1 = r0.gcd r1 ∧
      a * (xgcdLoop fuel r0 r1 t0 t1).2 ≡ (xgcdLoop fuel r0 r1 t0 t1).1 [ZMOD m] := by
  induction fuel generalizing r0 r1 t0 t1 with
  | zero => omega
  | succ fuel ih =>
    rw [xgcdLoop]
    split
    · next last => exact ⟨by rw [last, Nat.gcd_zero_right], h0⟩
    · next more =>
      have less : r0 % r1 < r1 := Nat.mod_lt _ (by omega)
      rw [← Nat.mod_eq_sub_div_mul, Nat.gcd_comm, Nat.gcd_rec, Nat.gcd_comm]
      exact ih (by omega) h1 (modEq_mul_remainder h0 h1)

theorem xgcd_snd_cast (a : Nat) {m : Nat} (hm : 1 ≤ m) :
    ((xgcd a m).2 : Int) = (xgcdLoop (a % m + 1) m (a % m) 0 1).2 % m :=
  Int.toNat_of_nonneg (Int.emod_nonneg _ (by omega))

/-- The loop starts at the remainders `m` and `a`, which are `a * 0` and `a * 1` modulo `m`. -/
theorem xgcd_spec (a : Nat) {m : Nat} (hm : 1 ≤ m) :
    (xgcd a m).1 = a.gcd m ∧ a * (xgcd a m).2 ≡ (xgcd a m).1 [MOD m] := by
  have modulus : (a : Int) * 0 ≡ m [ZMOD m] := by simp [Int.ModEq]
  have operand : (a : Int) * 1 ≡ (a % m : Nat) [ZMOD m] := by simp [Int.ModEq]
  obtain ⟨gcd, coefficient⟩ := xgcdLoop_spec (Nat.lt_succ_self _) modulus operand
  refine ⟨?_, ?_⟩
  · exact gcd.trans (by rw [Nat.gcd_comm m, ← Nat.gcd_rec, Nat.gcd_comm])
  · rw [← Int.natCast_modEq_iff, Nat.cast_mul, xgcd_snd_cast a hm]
    exact ((Int.mod_modEq _ _).mul_left _).trans coefficient

/-! ## The obligations on the functions -/

/-- Settles O25: what the loop keeps. -/
theorem modexpIsPowerModulo : Obligations.ModexpIsPowerModulo :=
  fun b e _ hm => modexp_eq_pow_mod b e hm

/-- Settles O26: what the loop keeps, and the reduction of the coefficient. -/
theorem xgcdIsBezout : Obligations.XgcdIsBezout := by
  intro a m hm
  obtain ⟨gcd, coefficient⟩ := xgcd_spec a hm
  exact ⟨gcd, xgcd_snd_lt a hm, coefficient⟩

/-! ## The commands (41_arith.md R122, R123, R124) -/

/-- A completion that writes one register. -/
theorem completeOk_singleton_spec (rd : Reg) (v : Nat) (s : State) :
    Completed .ok (completeOk [(rd, v)] s) ∧ (completeOk [(rd, v)] s).X.get rd = v ∧
      OtherRegsKept [rd] s (completeOk [(rd, v)] s) :=
  ⟨completed_finish _ _, RegFile.get_set_same .., completeOk_get [(rd, v)] s⟩

/-- Settles O33: the two cases of the start step, and the value of `modexp`. -/
theorem modexpCompletes : Obligations.ModexpCompletes := by
  intro rd rs1 rs2 rs3 s start
  refine ⟨modexpStart rd s, exec_modexp_next.2 ⟨start, rfl⟩, ?_⟩
  rcases modexpStart_cases rd s with ⟨invalid, e⟩ | ⟨hC, e⟩ <;> rw [e]
  · refine ⟨rfl, engineKept_finish _ s, drawsKept_finish _ s, fun _ => ⟨completed_finish _ s, rfl⟩, fun hC => ?_⟩
    omega
  · refine ⟨rfl, engineKept_completeOk _ s, drawsKept_completeOk _ s, fun invalid => ?_, fun _ => ?_⟩
    · omega
    · rw [modexp_eq_pow_mod _ _ hC]
      exact completeOk_singleton_spec rd _ s

/-- Settles O34: the three cases of the start step, told apart by the greatest common divisor that `xgcd` gives. -/
theorem modinvCompletes : Obligations.ModinvCompletes := by
  intro rd rs1 rs2 s start
  refine ⟨modinvStart rd s, exec_modinv_next.2 ⟨start, rfl⟩, ?_⟩
  rcases modinvStart_cases rd s with ⟨zero, e⟩ | ⟨hB, common, e⟩ | ⟨hB, coprime, e⟩ <;> rw [e]
  · exact ⟨rfl, engineKept_finish _ s, drawsKept_finish _ s, fun _ => ⟨completed_finish _ s, rfl⟩,
      fun hB => absurd zero hB, fun hB => absurd zero hB⟩
  · rw [(xgcd_spec s.A (by omega)).1] at common
    exact ⟨rfl, engineKept_finish _ s, drawsKept_finish _ s, fun zero => absurd zero hB,
      fun _ _ => ⟨completed_finish _ s, rfl⟩, fun _ coprime => absurd coprime common⟩
  · obtain ⟨gcd, inverse⟩ := xgcd_spec s.A (m := s.B) (by omega)
    obtain ⟨completed, result, others⟩ := completeOk_singleton_spec rd (xgcd s.A s.B).2 s
    rw [coprime] at gcd inverse
    refine ⟨rfl, engineKept_completeOk _ s, drawsKept_completeOk _ s, fun zero => absurd zero hB,
      fun _ common => absurd gcd.symm common, fun _ _ => ?_⟩
    rw [result]
    exact ⟨completed, xgcd_snd_lt s.A (by omega), inverse, others⟩

end Sys2Proof.Machine
end

section
/-! PROOFS. Primality testing (42_primality.md): what the trial division leaves, the rounds over the listed bases, and
ISPRIME. -/

namespace Sys2Proof.Machine

/-! ## The trial division (42_primality.md R140, R143, R147) -/

theorem smallFactor_iff {n : Nat} : smallFactor n = true ↔ ∃ p ∈ smallPrimes, p ∣ n := by
  simp [smallFactor, Nat.dvd_iff_mod_eq_zero]

theorem not_dvd_of_smallFactor {n p : Nat} (trial : smallFactor n = false) (hp : p ∈ smallPrimes) : ¬ p ∣ n := by
  intro factor
  simp [smallFactor_iff.2 ⟨p, hp, factor⟩] at trial

theorem bounds_of_mem_smallPrimes : ∀ p ∈ smallPrimes, 2 ≤ p ∧ p ≤ 541 := by decide

theorem eq_of_dvd_of_mem_smallPrimes : ∀ p ∈ smallPrimes, ∀ q ∈ smallPrimes, q ∣ p → q = p := by decide +kernel

/-- Every number from 2 up to the next prime after the ROM's last has a factor in the ROM. -/
theorem smallFactor_of_lt_547 : ∀ n < 547, 2 ≤ n → smallFactor n = true := by decide +kernel

/-- The ROM holds every prime below 547. -/
theorem mem_smallPrimes_of_prime {p : Nat} (hp : p.Prime) (h : p < 547) : p ∈ smallPrimes := by
  by_contra absent
  have trial := smallFactor_of_prime hp absent
  simp [smallFactor_of_lt_547 p h hp.two_le] at trial

/-- The least factor of a number of the ROM is in the ROM too, so it is that number. -/
theorem prime_of_mem_smallPrimes {p : Nat} (h : p ∈ smallPrimes) : p.Prime := by
  obtain ⟨two_le, le⟩ := bounds_of_mem_smallPrimes p h
  have least : p.minFac.Prime := Nat.minFac_prime (by omega)
  have small : p.minFac ≤ p := Nat.minFac_le (by omega)
  have member := mem_smallPrimes_of_prime least (by omega)
  rwa [eq_of_dvd_of_mem_smallPrimes p h _ member p.minFac_dvd] at least

theorem prime_factor_ge_547 {n p : Nat} (trial : smallFactor n = false) (hp : p.Prime) (factor : p ∣ n) : 547 ≤ p := by
  by_contra! small
  exact not_dvd_of_smallFactor trial (mem_smallPrimes_of_prime hp small) factor

theorem ge_547_of_smallFactor {n : Nat} (h2 : 2 ≤ n) (trial : smallFactor n = false) : 547 ≤ n := by
  by_contra! small
  simp [smallFactor_of_lt_547 n small h2] at trial

/-- A composite that passes is at least the square of its least factor. -/
theorem ge_547_sq_of_composite {n : Nat} (h2 : 2 ≤ n) (composite : ¬ n.Prime) (trial : smallFactor n = false) :
    547 ^ 2 ≤ n := calc
  547 ^ 2 ≤ n.minFac ^ 2 :=
    Nat.pow_le_pow_left (prime_factor_ge_547 trial (Nat.minFac_prime (by omega)) n.minFac_dvd) 2
  _ ≤ n := Nat.minFac_sq_le_self (by omega) composite

/-- Below the square of 547 the trial division decides. -/
theorem PassesTrial.prime {n : Nat} (h : PassesTrial n) (h2 : 2 ≤ n) (lt : n < 547 ^ 2) : n.Prime := by
  rcases h with small | trial
  · exact prime_of_mem_smallPrimes small
  · by_contra composite
    exact (ge_547_sq_of_composite h2 composite trial).not_gt lt

/-! ## The cases of the verdict (42_primality.md R143) -/

theorem isPrimeFn_of_lt_two {n : Nat} (h : n < 2) (b : BaseSource) : isPrimeFn n b = (false, b) := if_pos h

theorem isPrimeFn_of_factor {n : Nat} (h : 541 < n) (factor : ∃ p ∈ smallPrimes, p ∣ n) (b : BaseSource) :
    isPrimeFn n b = (false, b) := by
  have outside : n ∉ smallPrimes := fun small => (bounds_of_mem_smallPrimes n small).2.not_gt h
  rw [isPrimeFn, if_neg (by omega), if_neg outside, if_pos (smallFactor_iff.2 factor)]

theorem isPrimeFn_eq_mrTest {n : Nat} (h2 : 2 ≤ n) (outside : n ∉ smallPrimes) (trial : smallFactor n = false)
    (b : BaseSource) : isPrimeFn n b = mrTest n mrRounds b := by
  rw [isPrimeFn, if_neg (by omega), if_neg outside, trial, if_neg Bool.false_ne_true]

/-! ## Rounds over listed bases (42_primality.md R143, R144) -/

theorem draw_cons {n a : Nat} (ha : 2 ≤ a ∧ a ≤ n - 2) (rest : List Nat) (i : Nat) :
    BaseSource.draw n ⟨a :: rest, i⟩ = (a, ⟨rest, i⟩) := by
  simp only [BaseSource.draw, baseInRange, if_pos ha]

/-- The round that fails is the last, and takes its base. -/
theorem mrTest_of_fail {n a : Nat} (ha : 2 ≤ a ∧ a ≤ n - 2) (fails : mrRound n a = false) (k : Nat) (rest : List Nat)
    (i : Nat) : mrTest n (k + 1) ⟨a :: rest, i⟩ = (false, ⟨rest, i⟩) := by
  rw [mrTest, draw_cons ha, fails, if_neg Bool.false_ne_true]

/-- Each round that passes takes its base. -/
theorem mrTest_of_pass {n : Nat} {bs : List Nat} (inRange : ∀ a ∈ bs, 2 ≤ a ∧ a ≤ n - 2)
    (pass : ∀ a ∈ bs, mrRound n a = true) (k : Nat) (rest : List Nat) (i : Nat) :
    mrTest n (bs.length + k) ⟨bs ++ rest, i⟩ = mrTest n k ⟨rest, i⟩ := by
  induction bs with
  | nil => rw [List.length_nil, Nat.zero_add, List.nil_append]
  | cons a bs ih =>
    obtain ⟨ha, inRange⟩ := List.forall_mem_cons.1 inRange
    obtain ⟨passes, pass⟩ := List.forall_mem_cons.1 pass
    rw [List.length_cons, Nat.add_right_comm, List.cons_append, mrTest, draw_cons ha, if_pos passes]
    exact ih inRange pass

/-- A factor of `n` is no base that passes: it divides each of its powers modulo `n`, but neither 1 nor `n - 1`. -/
theorem mrRound_of_dvd {n a : Nat} (h2 : 2 ≤ n) (odd : n % 2 = 1) (factor : a ∣ n) (ha : a ≠ 1) :
    mrRound n a = false := by
  obtain ⟨-, oddPart⟩ := decompose_spec h2
  have hd : (decompose n).2 ≠ 0 := by omega
  have divides {e : Nat} (he : e ≠ 0) : a ∣ a ^ e % n := (Nat.dvd_mod_iff factor).2 (dvd_pow_self a he)
  rw [Bool.eq_false_iff, Ne, mrRound_iff a h2 (one_le_decompose_fst h2 odd)]
  rintro (one | ⟨r, -, minusOne⟩)
  · exact ha (Nat.dvd_one.1 (one ▸ divides hd))
  · have before : a ∣ n - 1 := minusOne ▸ divides (mul_ne_zero (Nat.two_pow_pos r).ne' hd)
    have apart := Nat.dvd_sub factor before
    rw [show n - (n - 1) = 1 by omega] at apart
    exact ha (Nat.dvd_one.1 apart)

/-! ## The obligations on the functions -/

/-- Settles O27: what `decompose` and a round compute. -/
theorem roundIsTheStrongTest : Obligations.RoundIsTheStrongTest := by
  intro n odd h5
  have h2 : 2 ≤ n := by omega
  obtain ⟨split, hd⟩ := decompose_spec h2
  have hs := one_le_decompose_fst h2 odd
  exact ⟨hs, hd, split, fun a _ _ => mrRound_iff a h2 hs⟩

/-- Settles O28: a prime passes the trial division, and every round by Fermat's little theorem. -/
theorem primesPassUnderEveryDraw : Obligations.PrimesPassUnderEveryDraw :=
  fun _ b hp => isPrimeFn_of_prime hp b

/-- Settles O29: the rounds before the first failure pass and take their bases. -/
theorem verdictIsThatOfTheRoundsTaken : Obligations.VerdictIsThatOfTheRoundsTaken := by
  intro n bs rest i h2 outside trial len inRange
  rw [isPrimeFn_eq_mrTest h2 outside trial]
  constructor
  · intro pass
    have rounds := mrTest_of_pass inRange pass 0 rest i
    rwa [len] at rounds
  · rintro pre a post rfl pass fails
    obtain ⟨preInRange, ha, -⟩ : _ ∧ _ ∧ _ := by
      simpa only [List.forall_mem_append, List.forall_mem_cons] using inRange
    have rounds : mrRounds = pre.length + (post.length + 1) := by
      rw [mrRounds, ← len, List.length_append, List.length_cons]
    rw [rounds, List.append_assoc, mrTest_of_pass preInRange pass]
    exact mrTest_of_fail ha fails _ _ _

theorem trialDivision_1373653 : 1373653 ∉ smallPrimes ∧ smallFactor 1373653 = false := by decide +kernel

theorem mrRound_1373653_two : mrRound 1373653 2 = true := by decide +kernel

/-- Settles O30: a factor is no base that passes, and 2 is one for 1373653. -/
theorem compositesAreRejectedUnderSomeDraws : Obligations.CompositesAreRejectedUnderSomeDraws := by
  refine ⟨fun n h2 composite outside trial => ?_, by norm_num, fun rest k => ?_⟩
  · obtain ⟨h5, odd⟩ := five_le_and_odd_of_smallFactor h2 outside trial
    have prime : n.minFac.Prime := Nat.minFac_prime (by omega)
    have proper : n.minFac ≤ n - 2 := by
      have le := (Nat.minFac_le_div (by omega) composite).trans (Nat.div_le_div_left prime.two_le (by omega))
      omega
    refine ⟨n.minFac, prime.two_le, proper, fun rest k => ?_⟩
    rw [isPrimeFn_eq_mrTest h2 outside trial, mrRounds,
      mrTest_of_fail ⟨prime.two_le, proper⟩ (mrRound_of_dvd h2 odd n.minFac_dvd prime.ne_one)]
  · obtain ⟨outside, trial⟩ := trialDivision_1373653
    have twos : ∀ a ∈ List.replicate 20 2, a = 2 := fun _ => List.eq_of_mem_replicate
    have verdict := (verdictIsThatOfTheRoundsTaken 1373653 (List.replicate 20 2) rest k (by norm_num) outside trial
      List.length_replicate fun a ha => by simp [twos a ha]).1 fun a ha => twos a ha ▸ mrRound_1373653_two
    exact congrArg Prod.fst verdict

/-- Settles O31: the least factor of what passes the trial division is at least 547. -/
theorem verdictIsExactBelow299209 : Obligations.VerdictIsExactBelow299209 := by
  refine ⟨fun n h2 outside trial => ?_, by decide +kernel, fun n b h2 lt => ?_⟩
  · have large := ge_547_of_smallFactor h2 trial
    obtain ⟨-, odd⟩ := five_le_and_odd_of_smallFactor h2 outside trial
    refine ⟨odd, large, fun p hp factor => ?_, one_le_decompose_fst h2 odd, by omega, fun composite => ?_⟩
    · exact Nat.lt_of_lt_of_le (by norm_num) (prime_factor_ge_547 trial hp factor)
    · exact ge_547_sq_of_composite h2 composite trial
  · exact ⟨fun passes => (passesTrial_of_isPrimeFn passes).prime h2 lt, fun prime => isPrimeFn_of_prime prime b⟩

/-! ## ISPRIME (42_primality.md R145) -/

theorem isprimeStart_verdict (s : State) :
    ((isprimeStart s).prime, (isprimeStart s).bases) = isPrimeFn s.A s.bases := rfl

/-- Settles O35: the one step writes the verdict, whose cases are those of `isPrimeFn`. -/
theorem isprimeCompletes : Obligations.IsprimeCompletes := by
  intro rs1 s start
  have verdict := isprimeStart_verdict s
  refine ⟨isprimeStart s, exec_isprime_next.2 ⟨start, rfl⟩, completed_finish _ _, rfl,
    (execFrame_isprimeStart rs1 s).kept, rfl, verdict, fun prime => ?_, fun small => ?_, fun large factor => ?_⟩
  · exact isPrimeFn_of_prime prime s.bases
  · exact congrArg Prod.fst (isPrimeFn_of_lt_two small s.bases)
  · rwa [isPrimeFn_of_factor large factor, Prod.mk.injEq] at verdict

end Sys2Proof.Machine
end

section
/-! PROOFS. The prime generator (43_prime_generator.md): its start step, the candidate draw and the candidate test, each as
one step of GENPRIME and of KEYGEN, and the walk of GENPRIME to its result. -/

namespace Sys2Proof.Machine

/-! ## The start step (43_prime_generator.md R162) -/

/-- Settles O36: the two cases of the start step. -/
theorem genprimeStarts : Obligations.GenprimeStarts := by
  intro rd rs1 s start _
  have step : exec (.genprime rd rs1) s = .next (genprimeStart s) := exec_genprime_next.2 (.inl ⟨start, rfl⟩)
  rcases genprimeStart_cases s with ⟨bad, e⟩ | ⟨lo, hi, e⟩ <;> rw [e] at step
  · refine ⟨fun inRange => by omega, fun _ => ⟨_, step, completed_finish _ s, rfl, rfl, ?_, ?_⟩⟩
    · exact engineKept_finish _ s
    · exact drawsKept_finish _ s
  · exact ⟨fun _ => step, fun bad => by omega⟩

/-! ## The candidate draw (43_prime_generator.md R160, R165) -/

/-- In GP_DRAW the two generators take the same step. -/
theorem exec_gpDraw {i : Instr} {rd rs1 : Reg} {s : State} (hi : i = .genprime rd rs1 ∨ i = .keygen rd rs1)
    (draw : s.fsm = .gpDraw) : exec i s = .next (candidateDraw s) := by
  rcases hi with rfl | rfl
  · exact exec_genprime_next.2 (.inr (.inl ⟨draw, rfl⟩))
  · exact exec_keygen_next.2 (.inr (.inl ⟨draw, rfl⟩))

theorem candidateDraw_of_ready {s : State} (ready : wordsNeeded s.gbits ≤ s.entropy.length) :
    candidateDraw s = s.takeCandidate :=
  if_pos (decide_eq_true ready)

theorem candidateDraw_of_lacking {s : State} (lacks : s.entropy.length < wordsNeeded s.gbits) : candidateDraw s = s := by
  rcases candidateDraw_cases s with ⟨ready, -⟩ | ⟨-, e⟩
  · omega
  · exact e

/-- The draw is made of exactly the first words offered. -/
theorem takeCandidate_of_append {s : State} {ws rest : List Word} (offered : s.entropy = ws ++ rest)
    (len : ws.length = wordsNeeded s.gbits) :
    s.takeCandidate =
      { s with entropy := rest, fsm := .gpTest, cand := candidateOf s.gbits (joinWords ws % 2 ^ s.gbits) } := by
  rw [State.takeCandidate, drawValue, ← len, offered, List.take_left, List.drop_left]

/-- Settles O37: the candidate is drawn from the words there, or the step holds. -/
theorem candidateDrawnHasTheBits : Obligations.CandidateDrawnHasTheBits := by
  intro i rd rs1 s hi draw two_le
  rw [exec_gpDraw hi draw]
  refine ⟨fun lacks => by rw [candidateDraw_of_lacking lacks], fun ws rest offered len => ?_⟩
  have ready : wordsNeeded s.gbits ≤ s.entropy.length := by
    rw [offered, List.length_append, len]
    exact Nat.le_add_right ..
  rw [candidateDraw_of_ready ready, takeCandidate_of_append offered len]
  exact ⟨_, rfl, rfl, rfl, candidateOf_bounds (by omega) (Nat.mod_lt _ (by positivity))⟩

/-! ## The candidate test (43_prime_generator.md R161) -/

theorem exec_genprime_gpTest (rd rs1 : Reg) {s : State} (test : s.fsm = .gpTest) :
    exec (.genprime rd rs1) s = .next (candidateTest (genprimePassed rd) s) :=
  exec_genprime_next.2 (.inr (.inr ⟨test, rfl⟩))

/-- Settles O38: the two verdicts of the test. -/
theorem genprimeTestsACandidate : Obligations.GenprimeTestsACandidate := by
  intro rd rs1 s test
  refine ⟨_, exec_genprime_gpTest rd rs1 test, ?_⟩
  rcases candidateTest_cases (genprimePassed rd) s with ⟨passes, e⟩ | ⟨fails, e⟩ <;> rw [e]
  · obtain ⟨completed, result, others⟩ :=
      completeOk_singleton_spec rd s.cand (s.setBases (isPrimeFn s.cand s.bases).2)
    refine ⟨rfl, fun _ => ⟨completed, result, others, rfl, rfl, ?_⟩, fun fails => by simp [passes] at fails⟩
    exact engineKept_completeOk _ (s.setBases _)
  · exact ⟨rfl, fun passes => by simp [fails] at passes, fun _ => rfl⟩

/-- Settles O40: the two verdicts of the test, and the two phases of a candidate that passes. -/
theorem keygenTestsACandidate : Obligations.KeygenTestsACandidate := by
  intro rd rs1 s test
  refine ⟨candidateTest keygenPassed s, exec_keygen_next.2 (.inr (.inr (.inl ⟨test, rfl⟩))), ?_⟩
  rcases candidateTest_cases keygenPassed s with ⟨passes, e⟩ | ⟨fails, e⟩ <;> rw [e]
  · rcases keygenPassed_cases (s.setBases (isPrimeFn s.cand s.bases).2) with ⟨phase, e⟩ | ⟨phase, e⟩ <;>
      rw [State.setBases_phase] at phase <;> rw [e]
    · exact ⟨rfl, fun _ _ => rfl, fun _ q => by simp [phase] at q, fun fails => by simp [passes] at fails⟩
    · exact ⟨rfl, fun _ p => by simp [phase] at p, fun _ _ => rfl, fun fails => by simp [passes] at fails⟩
  · exact ⟨rfl, fun passes => by simp [fails] at passes, fun passes => by simp [fails] at passes, fun _ => rfl⟩

/-! ## The walk of GENPRIME (43_prime_generator.md R163, R164) -/

/-- An engine step of the latched command is the first of the steps after it. -/
theorem engineSteps_succ_of_exec {i : Instr} {s u : State} (rst : s.rstN = true) (busy : s.fsm ≠ .idle)
    (latched : decode s.cmd = some i) (h : exec i s = .next u) (n : Nat) :
    engineSteps (n + 1) s = engineSteps n u := by
  rw [engineSteps_succ, engineStep_eq_exec rst busy latched, h, andThen_next]

/-- `t` is a completion of a GENPRIME whose walk went on from the candidate of `s` and stopped at or before `P`. -/
structure WalkEnds (rd : Reg) (P : Nat) (s t : State) : Prop where
  completed : Completed .ok t
  from_le : s.cand ≤ t.X.get rd
  le_prime : t.X.get rd ≤ P
  odd : t.X.get rd % 2 = 1
  trial : PassesTrial (t.X.get rd)
  others : OtherRegsKept [rd] s t
  entropy : t.entropy = s.entropy

/-- The step that finds a candidate which passes ends the walk. -/
theorem walkEnds_genprimePassed {rd : Reg} {P : Nat} {s : State} {b : BaseSource} (odd : s.cand % 2 = 1)
    (le : s.cand ≤ P) (passes : (isPrimeFn s.cand s.bases).1 = true) :
    WalkEnds rd P s (genprimePassed rd (s.setBases b)) := by
  obtain ⟨completed, result, others⟩ := completeOk_singleton_spec rd s.cand (s.setBases b)
  have result : (genprimePassed rd (s.setBases b)).X.get rd = s.cand := result
  exact {
    completed := completed
    from_le := result.ge
    le_prime := result.trans_le le
    odd := by rw [result, odd]
    trial := by
      rw [result]
      exact passesTrial_of_isPrimeFn passes
    others := others
    entropy := rfl }

/-- The end of the walk from the next candidate is one of the walk from this candidate. -/
theorem WalkEnds.of_nextCandidate {rd : Reg} {P : Nat} {s t : State} {b : BaseSource}
    (h : WalkEnds rd P (s.setBases b).nextCandidate t) : WalkEnds rd P s t :=
  { h with from_le := (Nat.le_add_right s.cand 2).trans h.from_le }

/-- A candidate that fails is not the odd prime `P`, so the next one is still not above it. -/
theorem add_two_le_of_isPrimeFn_false {c P : Nat} {b : BaseSource} (prime : P.Prime) (three_le : 3 ≤ c)
    (odd : c % 2 = 1) (le : c ≤ P) (fails : (isPrimeFn c b).1 = false) : c + 2 ≤ P := by
  have ne : c ≠ P := by
    rintro rfl
    simp [isPrimeFn_of_prime prime b] at fails
  have odd_P := prime.eq_two_or_odd
  omega

/-- By induction on how many candidates lie between the present one and `P`. -/
theorem genprime_walkEnds {rd rs1 : Reg} {P : Nat} {s : State} (rst : s.rstN = true) (test : s.fsm = .gpTest)
    (latched : decode s.cmd = some (.genprime rd rs1)) (three_le : 3 ≤ s.cand) (odd : s.cand % 2 = 1) (prime : P.Prime)
    (le : s.cand ≤ P) : ∃ n t, n ≤ (P - s.cand) / 2 + 1 ∧ engineSteps n s = .next t ∧ WalkEnds rd P s t := by
  induction near : (P - s.cand) / 2 using Nat.strong_induction_on generalizing s with
  | _ k nearer =>
  have step := engineSteps_succ_of_exec rst (by simp [test]) latched (exec_genprime_gpTest rd rs1 test)
  rcases candidateTest_cases (genprimePassed rd) s with ⟨passes, e⟩ | ⟨fails, e⟩ <;> rw [e] at step
  · exact ⟨1, _, by omega, step 0, walkEnds_genprimePassed odd le passes⟩
  · have next_le := add_two_le_of_isPrimeFn_false prime three_le odd le fails
    obtain ⟨n, t, bound, run, ends⟩ := nearer ((P - (s.cand + 2)) / 2) (by omega)
      (s := (s.setBases (isPrimeFn s.cand s.bases).2).nextCandidate) rst test latched (Nat.le_add_right_of_le three_le)
      (by simp [odd]) next_le rfl
    exact ⟨n + 1, t, by omega, (step n).trans run, ends.of_nextCandidate⟩

/-- Settles O54: where the walk ends. -/
theorem primeWalkIsBounded : Obligations.PrimeWalkIsBounded := by
  intro s rd rs1 P rst test latched three_le odd prime le
  obtain ⟨n, t, bound, run, ends⟩ := genprime_walkEnds rst test latched three_le odd prime le
  exact ⟨n, t, bound, run, ends.completed, ends.from_le, ends.le_prime, ends.odd, ends.others⟩

/-- In two steps GENPRIME with its words offered has its candidate. -/
theorem engineSteps_genprime_start {rd rs1 : Reg} {s : State} (rst : s.rstN = true) (start : s.fsm = .start)
    (latched : decode s.cmd = some (.genprime rd rs1)) (lo : 2 ≤ s.A) (hi : s.A ≤ s.params.width - 1)
    (words : wordsNeeded s.A ≤ s.entropy.length) (n : Nat) :
    engineSteps (n + 2) s = engineSteps n (s.beginDraw s.A).takeCandidate := by
  have begins : exec (.genprime rd rs1) s = .next (s.beginDraw s.A) := by
    rcases genprimeStart_cases s with ⟨bad, -⟩ | ⟨-, -, e⟩
    · omega
    · exact exec_genprime_next.2 (.inl ⟨start, e.symm⟩)
  have draws : exec (.genprime rd rs1) (s.beginDraw s.A) = .next (s.beginDraw s.A).takeCandidate := by
    rw [exec_gpDraw (.inl rfl) rfl, candidateDraw_of_ready words]
  rw [engineSteps_succ_of_exec rst (by simp [start]) latched begins,
    engineSteps_succ_of_exec (s := s.beginDraw s.A) rst Fsm.noConfusion latched draws]

/-- Settles O55: the draw, and the walk from it to a prime that Bertrand's postulate gives. -/
theorem genprimeGivenEntropyCompletes : Obligations.GenprimeGivenEntropyCompletes := by
  intro s rd rs1 rst start latched _ lo hi words
  obtain ⟨odd, from_le, P, prime, le, lt⟩ := walking_drawn (s.beginDraw s.A) (show 1 ≤ s.A by omega)
  have two_le : 2 ≤ 2 ^ (s.A - 1) := Nat.le_self_pow (by omega) 2
  have three_le : 3 ≤ (s.beginDraw s.A).takeCandidate.cand := by
    rw [State.beginDraw_gbits] at from_le
    omega
  obtain ⟨n, t, -, run, ends⟩ :=
    genprime_walkEnds (s := (s.beginDraw s.A).takeCandidate) rst rfl latched three_le odd prime le
  exact ⟨n + 2, t, (engineSteps_genprime_start rst start latched lo hi words n).trans run, ends.completed, ends.odd,
    from_le.trans ends.from_le, ends.le_prime.trans_lt lt, ends.trial, ends.others, ends.entropy⟩

end Sys2Proof.Machine
end

section
/-! PROOFS. The key derivation (44_key_derivation.md): the start step of KEYGEN and the step that derives the key. -/

namespace Sys2Proof.Machine

/-! ## The start step (44_key_derivation.md R181) -/

theorem exec_keygen_start (rd rs1 : Reg) {s : State} (start : s.fsm = .start) :
    exec (.keygen rd rs1) s = .next (keygenStart s) :=
  exec_keygen_next.2 (.inl ⟨start, rfl⟩)

/-- Settles O39: the two cases of the start step. -/
theorem keygenStarts : Obligations.KeygenStarts := by
  intro rd rs1 s start _
  have step := exec_keygen_start rd rs1 start
  rcases keygenStart_cases s with ⟨bad, e⟩ | ⟨lo, hi, e⟩ <;> rw [e] at step
  · refine ⟨fun inRange => by omega, fun _ => ⟨_, step, completed_finish _ s, rfl, rfl, ?_, ?_⟩⟩
    · exact engineKept_finish _ s
    · exact drawsKept_finish _ s
  · exact ⟨fun _ => step, fun bad => by omega⟩

/-! ## When 65537 is invertible (44_key_derivation.md R182, R184) -/

theorem State.phi_pos {s : State} (p : 2 ≤ s.kp) (q : 2 ≤ s.kq) : 1 ≤ s.phi :=
  Nat.mul_pos (by omega) (by omega)

theorem ePub_prime : ePub.Prime := by norm_num [ePub]

/-- The derivation step completes exactly when 65537 has an inverse. -/
theorem exec_keygen_kgInv (rd rs1 : Reg) {s : State} (derive : s.fsm = .kgInv) (p : 2 ≤ s.kp) (q : 2 ≤ s.kq) :
    (ePub.gcd s.phi = 1 ∧ exec (.keygen rd rs1) s = .next (completeOk (keygenWrites rd s) s)) ∨
    (ePub.gcd s.phi ≠ 1 ∧ exec (.keygen rd rs1) s = .next s.regenerate) := by
  have step : exec (.keygen rd rs1) s = .next (deriveKey rd s) :=
    exec_keygen_next.2 (.inr (.inr (.inr ⟨derive, rfl⟩)))
  have gcd := (xgcd_spec ePub (State.phi_pos p q)).1
  rcases deriveKey_cases rd s with ⟨invertible, e⟩ | ⟨fails, e⟩ <;> rw [e] at step
  · exact .inl ⟨gcd.symm.trans invertible, step⟩
  · exact .inr ⟨gcd ▸ fails, step⟩

/-- 65537 is prime, so it has no inverse modulo `phi` exactly when it divides one of the two factors. -/
theorem gcd_ePub_phi_ne_one_iff {s : State} (p : 2 ≤ s.kp) (q : 2 ≤ s.kq) :
    ePub.gcd s.phi ≠ 1 ↔ s.kp % 65537 = 1 ∨ s.kq % 65537 = 1 := by
  have divides {k : Nat} (hk : 2 ≤ k) : ePub ∣ k - 1 ↔ k % 65537 = 1 := by
    rw [ePub]
    omega
  rw [← divides p, ← divides q, ← ePub_prime.dvd_mul, ePub_prime.dvd_iff_not_coprime]
  rfl

/-! ## The key (44_key_derivation.md R182, R183) -/

/-- The four destinations are distinct registers, so each holds its own result. -/
theorem completeOk_keygenWrites_get (rd : Reg) (s : State) :
    (completeOk (keygenWrites rd s) s).X.get rd = 65537 ∧
    (completeOk (keygenWrites rd s) s).X.get (rd + 1) = (xgcd ePub s.phi).2 ∧
    (completeOk (keygenWrites rd s) s).X.get (rd + 2) = s.kp * s.kq ∧
    (completeOk (keygenWrites rd s) s).X.get (rd + 3) = s.kt := by
  simp [keygenWrites, RegFile.get_set, ePub]

/-- The private exponent is reduced, and an inverse of 65537 where there is one. -/
theorem xgcd_ePub_phi {s : State} (p : 2 ≤ s.kp) (q : 2 ≤ s.kq) (invertible : ePub.gcd s.phi = 1) :
    (xgcd ePub s.phi).2 < s.phi ∧ ePub * (xgcd ePub s.phi).2 ≡ 1 [MOD s.phi] := by
  obtain ⟨gcd, inverse⟩ := xgcd_spec ePub (State.phi_pos p q)
  rw [gcd, invertible] at inverse
  exact ⟨xgcd_snd_lt _ (State.phi_pos p q), inverse⟩

/-- Settles O41: the two cases of the derivation step, told apart by the greatest common divisor. -/
theorem keygenDerivesTheKey : Obligations.KeygenDerivesTheKey := by
  intro rd rs1 s derive p q
  rcases exec_keygen_kgInv rd rs1 derive p q with ⟨invertible, step⟩ | ⟨fails, step⟩
  · obtain ⟨e, d, n, T⟩ := completeOk_keygenWrites_get rd s
    obtain ⟨d_lt, inverse⟩ := xgcd_ePub_phi p q invertible
    have frame := execFrame_of_next step
    refine ⟨fun _ => ⟨_, step, completed_finish _ _, e, d.trans_lt d_lt, ?_, n, T, frame.regs, rfl, frame.kept,
      drawsKept_completeOk _ s⟩, fun fails => absurd invertible fails⟩
    rw [d]
    exact inverse
  · exact ⟨fun invertible => absurd invertible fails, fun _ => step⟩

/-- The sizes of two results of the walk (43_prime_generator.md R163) and of the numbers made of them. -/
theorem phi_and_modulus_bounds {s : State} (p : Generated s.gbits s.kp) (q : Generated s.gbits s.kq)
    (two_le : 2 ≤ s.gbits) :
    4 ≤ s.phi ∧ 2 ^ (2 * s.gbits - 2) ≤ s.kp * s.kq ∧ s.kp * s.kq < 2 ^ (2 * s.gbits + 2) := by
  obtain ⟨p_odd, p_lo, p_hi, -⟩ := p
  obtain ⟨q_odd, q_lo, q_hi, -⟩ := q
  have two_le_pow : 2 ≤ 2 ^ (s.gbits - 1) := Nat.le_self_pow (by omega) 2
  refine ⟨?_, ?_, ?_⟩
  · exact Nat.mul_le_mul (show 2 ≤ s.kp - 1 by omega) (show 2 ≤ s.kq - 1 by omega)
  · calc 2 ^ (2 * s.gbits - 2) = 2 ^ (s.gbits - 1) * 2 ^ (s.gbits - 1) := by rw [← pow_add]; congr 1; omega
      _ ≤ s.kp * s.kq := Nat.mul_le_mul p_lo q_lo
  · calc s.kp * s.kq < 2 ^ (s.gbits + 1) * 2 ^ (s.gbits + 1) := Nat.mul_lt_mul'' p_hi q_hi
      _ = 2 ^ (2 * s.gbits + 2) := by rw [← pow_add]; congr 1; omega

theorem Generated.two_le {gbits p : Nat} (h : Generated gbits p) (hb : 2 ≤ gbits) : 2 ≤ p := by
  obtain ⟨-, lo, -⟩ := h
  exact (Nat.le_self_pow (by omega) 2).trans lo

/-- Settles O57: the invariant says of the two primes what the walk gives, and the results are those of the derivation. -/
theorem keygenResultsAreAKey : Obligations.KeygenResultsAreAKey := by
  intro s t rd rs1 inv derive latched step ends
  have run := inv.running_latched (by simp [derive]) latched
  obtain ⟨-, q, p, args⟩ := (running_keygen_kgInv derive).1 run
  have two_le := args.two_le_gbits
  obtain ⟨four_le, n_lo, n_hi⟩ := phi_and_modulus_bounds p q two_le
  have p2 := p.two_le two_le
  have q2 := q.two_le two_le
  rcases exec_keygen_kgInv rd rs1 derive p2 q2 with ⟨invertible, e⟩ | ⟨-, e⟩ <;>
    rw [step, Host.Outcome.next.injEq] at e <;> subst e
  · obtain ⟨e, d, n, T⟩ := completeOk_keygenWrites_get rd s
    obtain ⟨d_lt, inverse⟩ := xgcd_ePub_phi p2 q2 invertible
    have n_lt := keygenWrites_lt (rd := rd) p q args inv.legal (rd + 2, s.kp * s.kq) (by simp [keygenWrites])
    obtain ⟨-, kt, -, -⟩ := args
    refine ⟨e, d.trans_lt d_lt, ?_, four_le, n, n_lo, n_hi, n_lt, T.trans kt⟩
    rw [d]
    exact Eq.trans inverse (Nat.mod_eq_of_lt (show 1 < s.phi by omega))
  · simp at ends

end Sys2Proof.Machine
end

section
/-! PROOFS. RSA correctness of the block's own functions (44_key_derivation.md R186, 5). -/

namespace Sys2Proof.Machine

/-- Fermat's little theorem for an exponent that is 1 modulo `p - 1`, and every base. -/
theorem pow_one_add_mul_modEq {p : Nat} (prime : p.Prime) (m k : Nat) : m ^ (1 + (p - 1) * k) ≡ m [MOD p] := by
  have : Fact p.Prime := ⟨prime⟩
  rw [← ZMod.natCast_eq_natCast_iff, Nat.cast_pow, pow_add, pow_one, pow_mul]
  by_cases zero : (m : ZMod p) = 0
  · rw [zero, zero_mul]
  · rw [ZMod.pow_card_sub_one_eq_one zero, one_pow, mul_one]

/-- RSA: with distinct primes an exponent that is 1 modulo `phi` gives back every number. -/
theorem pow_modEq_self {p q x : Nat} (hp : p.Prime) (hq : q.Prime) (ne : p ≠ q) (hx : x ≡ 1 [MOD (p - 1) * (q - 1)])
    (pos : 1 ≤ x) (m : Nat) : m ^ x ≡ m [MOD p * q] := by
  obtain ⟨k, hk⟩ := (Nat.modEq_iff_dvd' pos).1 hx.symm
  have split : x = 1 + (p - 1) * ((q - 1) * k) := by rw [← Nat.mul_assoc, ← hk]; omega
  have swap : x = 1 + (q - 1) * ((p - 1) * k) := by rw [split, Nat.mul_left_comm]
  rw [← Nat.modEq_and_modEq_iff_modEq_mul ((Nat.coprime_primes hp hq).2 ne)]
  constructor
  · rw [split]
    exact pow_one_add_mul_modEq hp m _
  · rw [swap]
    exact pow_one_add_mul_modEq hq m _

/-- Settles O58: enciphering and deciphering is one power, to the exponent `e * d`, which is 1 modulo `phi`. -/
theorem roundTripWithDistinctPrimes : Obligations.RoundTripWithDistinctPrimes := by
  intro p q m hp hq ne invertible hm
  have p_two := hp.two_le
  have q_two := hq.two_le
  have n_two : 2 ≤ p * q := Nat.mul_le_mul p_two (show 1 ≤ q by omega)
  have phi_two : 2 ≤ (p - 1) * (q - 1) := by
    rcases show 2 ≤ p - 1 ∨ 2 ≤ q - 1 by omega with h | h
    · exact Nat.mul_le_mul h (show 1 ≤ q - 1 by omega)
    · exact Nat.mul_le_mul (show 1 ≤ p - 1 by omega) h
  obtain ⟨-, inverse⟩ := xgcd_spec 65537 (show 1 ≤ (p - 1) * (q - 1) by omega)
  rw [invertible] at inverse
  set d := (xgcd 65537 ((p - 1) * (q - 1))).2
  have d_ne : d ≠ 0 := by
    intro zero
    rw [zero, Nat.mul_zero, Nat.ModEq, Nat.zero_mod, Nat.mod_eq_of_lt phi_two] at inverse
    cases inverse
  calc modexp (modexp m 65537 (p * q)) d (p * q)
      = (m ^ 65537 % (p * q)) ^ d % (p * q) := by rw [modexp_eq_pow_mod _ _ n_two, modexp_eq_pow_mod _ _ n_two]
    _ = m ^ (65537 * d) % (p * q) := by rw [← Nat.pow_mod, pow_mul]
    _ = m % (p * q) := pow_modEq_self hp hq ne inverse (by omega) m
    _ = m := Nat.mod_eq_of_lt hm

end Sys2Proof.Machine
end

section
/-! PROOFS. KEYGEN from its start step on (44_key_derivation.md R181, R187): the walk to each prime, and the first derivation
of a small key. -/

namespace Sys2Proof.Machine

/-! ## From a draw to a prime (43_prime_generator.md R160, R161) -/

/-- `s` in GP_TEST at the candidate `c`, with these words and base draws left. -/
def State.testing (s : State) (words : List Word) (c : Nat) (b : BaseSource) : State :=
  { s with fsm := .gpTest, entropy := words, cand := c, bases := b }

/-- The candidate of a draw of one word (43_prime_generator.md R160, R165). -/
def candidateOfWord (bits : Nat) (w : Word) : Nat := candidateOf bits (w.toNat % 2 ^ bits)

theorem wordsNeeded_eq_one {bits : Nat} (pos : 1 ≤ bits) (le : bits ≤ 32) : wordsNeeded bits = 1 := by
  rw [wordsNeeded]
  omega

theorem Walking.lt {bits c : Nat} (h : Walking bits c) : c < 2 ^ (bits + 1) := by
  obtain ⟨-, -, P, -, le, lt⟩ := h
  omega

/-- The walk from the candidate `c` ends at `p`, after `k` candidates that fail. -/
structure WalksTo (gbits c k p : Nat) : Prop where
  place : p = c + 2 * k
  result : Generated gbits p
  /-- 42_primality.md R146, 1: no prime fails. -/
  at_once : c.Prime → k = 0

section
variable {rd rs1 : Reg} {s : State} (rst : s.rstN = true) (latched : decode s.cmd = some (.keygen rd rs1))
include rst latched

theorem engineSteps_keygen_draw {w : Word} {rest : List Word} (draw : s.fsm = .gpDraw) (pos : 1 ≤ s.gbits)
    (le : s.gbits ≤ 32) (offered : s.entropy = w :: rest) (n : Nat) :
    engineSteps (n + 1) s = engineSteps n (s.testing rest (candidateOfWord s.gbits w) s.bases) := by
  have one := wordsNeeded_eq_one pos le
  have step : exec (.keygen rd rs1) s = .next s.takeCandidate := by
    rw [exec_gpDraw (.inr rfl) draw, candidateDraw_of_ready (by simp [one, offered])]
  rw [takeCandidate_of_append (ws := [w]) offered one.symm] at step
  exact engineSteps_succ_of_exec rst (by simp [draw]) latched step n

theorem engineSteps_keygen_test (words : List Word) (c : Nat) (b : BaseSource) :
    ((isPrimeFn c b).1 = true ∧ ∀ n, engineSteps (n + 1) (s.testing words c b) =
      engineSteps n (keygenPassed (s.testing words c (isPrimeFn c b).2))) ∨
    ((isPrimeFn c b).1 = false ∧ ∀ n, engineSteps (n + 1) (s.testing words c b) =
      engineSteps n (s.testing words (c + 2) (isPrimeFn c b).2)) := by
  have step : exec (.keygen rd rs1) (s.testing words c b) = .next (candidateTest keygenPassed (s.testing words c b)) :=
    exec_keygen_next.2 (.inr (.inr (.inl ⟨rfl, rfl⟩)))
  have steps := engineSteps_succ_of_exec (s := s.testing words c b) rst Fsm.noConfusion latched step
  rcases candidateTest_cases keygenPassed (s.testing words c b) with ⟨passes, e⟩ | ⟨fails, e⟩ <;> rw [e] at steps
  · exact .inl ⟨passes, steps⟩
  · exact .inr ⟨fails, steps⟩

/-- The room below `2^(gbits+1)` shrinks with each candidate that fails. -/
theorem engineSteps_keygen_walk (two_le : 2 ≤ s.gbits) (words : List Word) {c : Nat} (b : BaseSource)
    (walk : Walking s.gbits c) : ∃ k p b', WalksTo s.gbits c k p ∧
      ∀ n, engineSteps (n + k + 1) (s.testing words c b) = engineSteps n (keygenPassed (s.testing words p b')) := by
  induction room : 2 ^ (s.gbits + 1) - c using Nat.strong_induction_on generalizing c b with
  | _ r ih =>
  have lt := walk.lt
  rcases engineSteps_keygen_test rst latched words c b with ⟨passes, steps⟩ | ⟨fails, steps⟩
  · exact ⟨0, c, _, ⟨rfl, walk.generated passes, fun _ => rfl⟩, steps⟩
  · obtain ⟨k, p, b', ⟨place, result, -⟩, later⟩ := ih (2 ^ (s.gbits + 1) - (c + 2)) (by omega) (isPrimeFn c b).2
      (walk.add_two two_le fails) rfl
    refine ⟨k + 1, p, b', ⟨by omega, result, fun prime => ?_⟩, fun n => ?_⟩
    · simp [isPrimeFn_of_prime prime b] at fails
    · exact (steps (n + (k + 1))).trans (later n)

/-- A draw of one word and the walk from it. -/
theorem engineSteps_keygen_prime {w : Word} {rest : List Word} (draw : s.fsm = .gpDraw) (two_le : 2 ≤ s.gbits)
    (le : s.gbits ≤ 32) (offered : s.entropy = w :: rest) :
    ∃ k p b, WalksTo s.gbits (candidateOfWord s.gbits w) k p ∧
      ∀ n, engineSteps (n + k + 2) s = engineSteps n (keygenPassed (s.testing rest p b)) := by
  obtain ⟨k, p, b, walk, steps⟩ := engineSteps_keygen_walk rst latched two_le rest s.bases
    (walking_candidateOf (by omega) (Nat.mod_lt w.toNat (by positivity)))
  exact ⟨k, p, b, walk, fun n => (engineSteps_keygen_draw rst latched draw (by omega) le offered _).trans (steps n)⟩

/-! ## From START to the first derivation (44_key_derivation.md R181) -/

theorem engineSteps_keygen_start (start : s.fsm = .start) (lo : 2 ≤ s.A) (hi : s.A ≤ s.params.width - 4) (n : Nat) :
    engineSteps (n + 1) s =
      engineSteps n { s with kt := s.A, gbits := s.A / 2 + 1, phase := .p, fsm := .gpDraw } := by
  have step := exec_keygen_start rd rs1 start
  rcases keygenStart_cases s with ⟨bad, -⟩ | ⟨-, -, e⟩
  · omega
  · rw [e] at step
    exact engineSteps_succ_of_exec rst (by simp [start]) latched step n

end

/-- A KEYGEN accepted in `s`, in KG_INV with the primes `p` and `q`, with these words and base draws left. -/
def State.derivation (s : State) (words : List Word) (p q : Nat) (b : BaseSource) : State :=
  { s with
    fsm := .kgInv, gbits := s.A / 2 + 1, cand := q, phase := .q, kt := s.A, kp := p, kq := q
    entropy := words, bases := b }

theorem keygenPassed_of_phase_p {s : State} (h : s.phase = .p) :
    keygenPassed s = { s with kp := s.cand, phase := .q, fsm := .gpDraw } := by
  simp [keygenPassed, h]

theorem keygenPassed_of_phase_q {s : State} (h : s.phase = .q) :
    keygenPassed s = { s with kq := s.cand, fsm := .kgInv } := by
  simp [keygenPassed, h]

/-- With two words offered KEYGEN comes to its first derivation, with the end of a walk from each draw. -/
theorem engineSteps_keygen_derivation {rd rs1 : Reg} {s : State} {w w' : Word} {rest : List Word} (rst : s.rstN = true)
    (latched : decode s.cmd = some (.keygen rd rs1)) (start : s.fsm = .start) (lo : 2 ≤ s.A)
    (hi : s.A ≤ s.params.width - 4) (small : s.A ≤ 62) (offered : s.entropy = w :: w' :: rest) :
    ∃ i j p q b, WalksTo (s.A / 2 + 1) (candidateOfWord (s.A / 2 + 1) w) i p ∧
      WalksTo (s.A / 2 + 1) (candidateOfWord (s.A / 2 + 1) w') j q ∧
      ∀ n, engineSteps (n + j + i + 5) s = engineSteps n (s.derivation rest p q b) := by
  have two_le : 2 ≤ s.A / 2 + 1 := by omega
  have le : s.A / 2 + 1 ≤ 32 := by omega
  obtain ⟨i, p, b, walk_p, steps_p⟩ := engineSteps_keygen_prime
    (s := { s with kt := s.A, gbits := s.A / 2 + 1, phase := .p, fsm := .gpDraw }) rst latched rfl two_le le offered
  rw [keygenPassed_of_phase_p rfl] at steps_p
  obtain ⟨j, q, b', walk_q, steps_q⟩ := engineSteps_keygen_prime
    (s := { s with
      fsm := .gpDraw, gbits := s.A / 2 + 1, cand := p, phase := .q, kt := s.A, kp := p, entropy := w' :: rest, bases := b })
    rst latched rfl two_le le rfl
  rw [keygenPassed_of_phase_q rfl] at steps_q
  refine ⟨i, j, p, q, b', walk_p, walk_q, fun n => ?_⟩
  have first := engineSteps_keygen_start rst latched start lo hi (n + j + 2 + i + 2)
  have count : n + j + i + 5 = n + j + 2 + i + 2 + 1 := by omega
  rw [count, first]
  exact (steps_p (n + j + 2)).trans (steps_q n)

/-! ## Small keys (44_key_derivation.md R187) -/

/-- None of the four numbers below `2^18` that are 1 modulo 65537 is prime. -/
theorem mod_65537_ne_one_of_prime {p : Nat} (prime : p.Prime) (lt : p < 2 ^ 18) : p % 65537 ≠ 1 := by
  intro one
  obtain ⟨k, rfl⟩ : ∃ k, p = 65537 * k + 1 := ⟨p / 65537, by omega⟩
  have k_lt : k < 4 := by omega
  interval_cases k <;> norm_num at prime

/-- Below `2^18` the trial division decides, so a result of the walk is prime. -/
theorem Generated.mod_65537_ne_one {gbits p : Nat} (h : Generated gbits p) (two_le : 2 ≤ gbits) (small : gbits ≤ 17) :
    p % 65537 ≠ 1 := by
  have p_two := h.two_le two_le
  obtain ⟨-, -, lt, trial⟩ := h
  have p_lt : p < 2 ^ 18 := lt.trans_le (Nat.pow_le_pow_right (by norm_num) (by omega))
  exact mod_65537_ne_one_of_prime (trial.prime p_two (by omega)) p_lt

/-- Settles O59: the two draws, the walks from them, and a derivation that cannot fail. -/
theorem smallKeygenCompletes : Obligations.SmallKeygenCompletes := by
  intro s rd rs1 inv rst start latched lo hi words
  obtain ⟨w, w', rest, offered⟩ : ∃ w w' rest, s.entropy = w :: w' :: rest := by
    rcases e : s.entropy with _ | ⟨w, _ | ⟨w', rest⟩⟩ <;> simp [e] at words ⊢
  obtain ⟨-, width, -⟩ := inv.legal
  obtain ⟨i, j, p, q, b, walk_p, walk_q, steps⟩ :=
    engineSteps_keygen_derivation rst latched start lo (by omega) (by omega) offered
  have two_le : 2 ≤ s.A / 2 + 1 := by omega
  have p_two : 2 ≤ p := walk_p.result.two_le two_le
  have q_two : 2 ≤ q := walk_q.result.two_le two_le
  rcases exec_keygen_kgInv rd rs1 (s := s.derivation rest p q b) rfl p_two q_two with ⟨-, derive⟩ | ⟨fails, -⟩
  · obtain ⟨e, -, -, T⟩ := completeOk_keygenWrites_get rd (s.derivation rest p q b)
    have last := engineSteps_succ_of_exec (s := s.derivation rest p q b) rst Fsm.noConfusion latched derive 0
    have others := (execFrame_of_next derive).regs
    refine ⟨0 + 1 + j + i + 5, _, (steps (0 + 1)).trans last, completed_finish _ _, e, T, others, ?_⟩
    rw [offered]
    rfl
  · rcases (gcd_ePub_phi_ne_one_iff (s := s.derivation rest p q b) p_two q_two).1 fails with one | one
    · exact absurd one (walk_p.result.mod_65537_ne_one two_le (by omega))
    · exact absurd one (walk_q.result.mod_65537_ne_one two_le (by omega))

end Sys2Proof.Machine
end

section
/-! PROOFS. The host's load of an operand register, LDX and LDXS (30_encoding.md R90, 70_reset_and_hazards.md R241). -/

namespace Sys2Proof.Machine

/-- `x` with its low `n` limbs those of `v`. -/
def withLowLimbs (x v n : Nat) : Nat := x / 2 ^ (32 * n) * 2 ^ (32 * n) + v % 2 ^ (32 * n)

theorem withLowLimbs_zero (x v : Nat) : withLowLimbs x v 0 = x := by
  simp [withLowLimbs, Nat.mod_one]

theorem withLowLimbs_mod (x v n : Nat) : withLowLimbs x v n % 2 ^ (32 * n) = v % 2 ^ (32 * n) := by
  rw [withLowLimbs, Nat.mul_add_mod', Nat.mod_mod]

theorem withLowLimbs_div (x v n : Nat) : withLowLimbs x v n / 2 ^ (32 * n) = x / 2 ^ (32 * n) := by
  rw [withLowLimbs, Nat.mul_comm, Nat.mul_add_div (by positivity), Nat.div_eq_of_lt (Nat.mod_lt _ (by positivity)),
    Nat.add_zero]

/-- The low `n` limbs of `v` and the next one are its low `n + 1`. -/
theorem limb_add_mod (v n : Nat) : limb v n * 2 ^ (32 * n) + v % 2 ^ (32 * n) = v % 2 ^ (32 * (n + 1)) := by
  rw [limb_eq, Nat.mul_succ, Nat.pow_add, Nat.mod_mul, Nat.mul_comm, Nat.add_comm]

/-- The next limb of `v` joins those written before. -/
theorem setLimb_withLowLimbs (x v n : Nat) :
    setLimb (withLowLimbs x v n) n (limbWord v n) = withLowLimbs x v (n + 1) := by
  have above : withLowLimbs x v n / 2 ^ (32 * n + 32) = x / 2 ^ (32 * n + 32) := by
    rw [Nat.pow_add, ← Nat.div_div_eq_div_mul, withLowLimbs_div, Nat.div_div_eq_div_mul]
  rw [setLimb, above, withLowLimbs_mod, limbWord_toNat, Nat.add_assoc, limb_add_mod, withLowLimbs, Nat.mul_succ]

/-- Writing back what a register holds changes nothing. -/
theorem RegFile.set_get_self (x : RegFile) (i : Reg) : x.set i (x.get i) = x :=
  RegFile.ext_get fun j => by
    rw [RegFile.get_set]
    split
    · next h => rw [h]
    · rfl

theorem loadTxns_succ (i : Reg) (v n : Nat) :
    loadTxns i v (n + 1) = loadTxns i v n ++ [writeTxn (limbOffset i n) (limbWord v n)] := by
  simp [loadTxns, List.range_succ]

/-- A write of a present limb while no command runs. -/
theorem deliver_write_limb {i : Reg} {j : Nat} (v : Word) {s : State} (rst : s.rstN = true) (idle : s.busy = false)
    (present : j < limbCount s.params) (small : j < 256) :
    deliver (.bus (writeTxn (limbOffset i j) v)) s = .next { s with
      X := s.X.set i (setLimb (s.X.get i) j v)
      responses := s.responses ++ [.written] } := by
  have aligned : (limbOffset i j).toNat % 4 = 0 := by rw [limbOffset_toNat small]; omega
  rw [writeTxn, deliver_write v rst aligned, busWrite_limb v s small]
  rcases writeLimb_cases i j v s with ⟨absent, -⟩ | ⟨-, busy, -⟩ | ⟨-, -, e⟩
  · omega
  · simp [idle] at busy
  · rw [e]
    rfl

/-- `s` with `v` in `X[i]` after the host's writes, `n` in number. -/
def State.withReg (s : State) (i : Reg) (v n : Nat) : State :=
  { s with X := s.X.set i v, responses := s.responses ++ List.replicate n .written }

/-- LDXS of `n` present limbs, while no command runs. -/
theorem deliverAll_loadTxns (i : Reg) (v : Nat) {n : Nat} {s : State} (rst : s.rstN = true) (idle : s.busy = false)
    (present : n ≤ limbCount s.params) (small : n ≤ 256) :
    deliverAll ((loadTxns i v n).map .bus) s = .next (s.withReg i (withLowLimbs (s.X.get i) v n) n) := by
  induction n with
  | zero => simp [loadTxns, State.withReg, withLowLimbs_zero, RegFile.set_get_self]
  | succ n ih =>
    have next := deliver_write_limb (i := i) (j := n) (limbWord v n) (s := s.withReg i (withLowLimbs (s.X.get i) v n) n)
      rst idle present (by omega)
    rw [loadTxns_succ, List.map_append, deliverAll_append, ih (by omega) (by omega), andThen_next, List.map_singleton,
      deliverAll_cons, next]
    simp [State.withReg, setLimb_withLowLimbs, List.replicate_succ']

/-- LDX, while no command runs: every limb is present. -/
theorem deliverAll_ldx (i : Reg) {v : Nat} {s : State} (rst : s.rstN = true) (idle : s.busy = false)
    (legal : s.params.Legal) (fits : s.X.get i < 2 ^ s.params.width) (hv : v < 2 ^ s.params.width) :
    deliverAll ((HostOp.ldx i v).events s.params) s = .next (s.withReg i v (limbCount s.params)) := by
  obtain ⟨whole, -, widest⟩ := legal
  have few : limbCount s.params ≤ 256 := by
    rw [limbCount]
    omega
  have width : 32 * limbCount s.params = s.params.width := Nat.mul_div_cancel' (Nat.dvd_of_mod_eq_zero whole)
  have all : withLowLimbs (s.X.get i) v (limbCount s.params) = v := by
    rw [withLowLimbs, width, Nat.div_eq_of_lt fits, Nat.zero_mul, Nat.zero_add, Nat.mod_eq_of_lt hv]
  rw [HostOp.events, HostOp.expand, deliverAll_loadTxns i v rst idle le_rfl few, all]

end Sys2Proof.Machine
end

section
/-! PROOFS. A run of KEYGEN with a retry (44_key_derivation.md R184, R187). -/

namespace Sys2Proof.Machine

/-- The completion ends in IDLE, so it is never the regeneration. -/
theorem exec_keygen_regenerates_iff (rd rs1 : Reg) {s : State} (derive : s.fsm = .kgInv) (p : 2 ≤ s.kp) (q : 2 ≤ s.kq) :
    exec (.keygen rd rs1) s = .next s.regenerate ↔ s.kp % 65537 = 1 ∨ s.kq % 65537 = 1 := by
  rw [← gcd_ePub_phi_ne_one_iff p q]
  rcases exec_keygen_kgInv rd rs1 derive p q with ⟨invertible, e⟩ | ⟨fails, e⟩
  · refine iff_of_false (fun same => ?_) (not_not_intro invertible)
    rw [e, Host.Outcome.next.injEq] at same
    simpa using congrArg (·.fsm) same
  · exact iff_of_true e fails

/-- A walk that starts at a prime ends there. -/
theorem WalksTo.of_prime {gbits c k p : Nat} (h : WalksTo gbits c k p) (prime : c.Prime) : k = 0 ∧ p = c := by
  obtain ⟨place, -, at_once⟩ := h
  have stays := at_once prime
  exact ⟨stays, by rw [place, stays, Nat.mul_zero, Nat.add_zero]⟩

/-- The draws 917519 and 524309 are primes of 20 bits, and the first is `14 * 65537 + 1`. -/
theorem engineSteps_keygen_retry_draws {rd rs1 : Reg} {s : State} {rest : List Word} (rst : s.rstN = true)
    (latched : decode s.cmd = some (.keygen rd rs1)) (start : s.fsm = .start) (legal : s.params.Legal) (T : s.A = 38)
    (offered : s.entropy = 917519#32 :: 524309#32 :: rest) :
    ∃ b, ∀ n, engineSteps (n + 5) s = engineSteps n (s.derivation rest 917519 524309 b) := by
  obtain ⟨-, width, -⟩ := legal
  obtain ⟨i, j, p, q, b, walk_p, walk_q, steps⟩ :=
    engineSteps_keygen_derivation rst latched start (by omega) (by omega) (by omega) offered
  rw [T, show candidateOfWord (38 / 2 + 1) 917519#32 = 917519 by decide] at walk_p
  rw [T, show candidateOfWord (38 / 2 + 1) 524309#32 = 524309 by decide] at walk_q
  obtain ⟨rfl, rfl⟩ := walk_p.of_prime (by norm_num)
  obtain ⟨rfl, rfl⟩ := walk_q.of_prime (by norm_num)
  exact ⟨b, steps⟩

/-- The derivation is the sixth step, and fails because of the first prime. -/
theorem engineSteps_keygen_retry {rd rs1 : Reg} {s : State} {rest : List Word} (rst : s.rstN = true)
    (latched : decode s.cmd = some (.keygen rd rs1)) (start : s.fsm = .start) (legal : s.params.Legal) (T : s.A = 38)
    (offered : s.entropy = 917519#32 :: 524309#32 :: rest) :
    ∃ b, engineSteps 5 s = .next (s.derivation rest 917519 524309 b) ∧
      engineSteps 6 s = .next (s.derivation rest 917519 524309 b).regenerate := by
  obtain ⟨b, steps⟩ := engineSteps_keygen_retry_draws rst latched start legal T offered
  have derive : exec (.keygen rd rs1) (s.derivation rest 917519 524309 b) =
      .next (s.derivation rest 917519 524309 b).regenerate :=
    (exec_keygen_regenerates_iff rd rs1 rfl (show 2 ≤ 917519 by norm_num) (show 2 ≤ 524309 by norm_num)).2
      (.inl (show 917519 % 65537 = 1 by norm_num))
  have last := engineSteps_succ_of_exec (s := s.derivation rest 917519 524309 b) rst Fsm.noConfusion latched derive 0
  exact ⟨b, steps 0, (steps 1).trans last⟩

/-- Engine steps with no event between them are the engine scheduled so often. -/
theorem deliverAll_replicate_engine (n : Nat) (s : State) :
    deliverAll (List.replicate n .engine) s = engineSteps n s := by
  induction n generalizing s with
  | zero => rfl
  | succ n ih =>
    rw [List.replicate_succ, deliverAll_cons, engineSteps_succ, funext ih]
    rfl

/-- After reset with the parameters `p` the host has loaded `T` into `X0` and started `KEYGEN x4, x0`, and two words are
offered. -/
def keygenStarted (p : Params) (T : Nat) (w w' : Word) : State :=
  ((((((State.resetWith p).withReg 0 T (limbCount p)).accept (encode (.keygen 4 0))).respond .written).offerEntropy
    w).offerEntropy w')

theorem deliverAll_keygen_started {p : Params} (legal : p.Legal) {T : Nat} (fits : T < 2 ^ p.width) (w w' : Word) :
    deliverAll ((HostOp.ldx 0 T).events p ++ (HostOp.cmd (.keygen 4 0)).events p ++ [.entropy w, .entropy w'])
      (State.resetWith p) = .next (keygenStarted p T w w') := by
  have loads : deliverAll ((HostOp.ldx 0 T).events p) (State.resetWith p) =
      .next ((State.resetWith p).withReg 0 T (limbCount p)) :=
    deliverAll_ldx 0 (s := State.resetWith p) rfl rfl legal (Nat.two_pow_pos _) fits
  have starts : deliver (.bus (writeTxn 0x010 (encode (.keygen 4 0)))) ((State.resetWith p).withReg 0 T (limbCount p)) =
      .next ((((State.resetWith p).withReg 0 T (limbCount p)).accept (encode (.keygen 4 0))).respond .written) := by
    rw [writeTxn, deliver_write_cmd _ rfl, writeCmd_accept rfl (by decide)]
  rw [List.append_assoc, deliverAll_append, loads, andThen_next, HostOp.events, HostOp.expand,
    List.map_singleton, List.singleton_append, deliverAll_cons]
  exact congrArg (andThen · _) starts

/-- Settles O60: the draws of a retry, and the host's events that lead to them. -/
theorem retryIsAdmitted : Obligations.RetryIsAdmitted := by
  refine ⟨fun s rd rs1 derive p q => exec_keygen_regenerates_iff rd rs1 derive p q, ?_, fun p legal => ?_⟩
  · intro s rd rs1 rest rst start latched legal T offered
    obtain ⟨b, derives, retries⟩ := engineSteps_keygen_retry rst latched start legal T offered
    refine ⟨_, _, derives, rfl, rfl, rfl, retries, rfl, ?_, rfl, ⟨rfl, rfl, rfl, rfl, rfl, rfl, rfl⟩⟩
    simp [State.derivation, T]
  · have fits : 38 < 2 ^ p.width := calc
      38 < 2 ^ 64 := by norm_num
      _ ≤ 2 ^ p.width := Nat.pow_le_pow_right (by norm_num) legal.2.1
    have T : (keygenStarted p 38 917519#32 524309#32).A = 38 := by
      have rs1 : rs1Field (encode (.keygen 4 0)) = 0 := by decide
      simp [keygenStarted, State.withReg, rs1]
    obtain ⟨b, -, retries⟩ := engineSteps_keygen_retry (s := keygenStarted p 38 917519#32 524309#32) (rd := 4) (rs1 := 0)
      rfl (decodeOfEncode _ rfl) rfl legal T rfl
    refine ⟨((keygenStarted p 38 917519#32 524309#32).derivation [] 917519 524309 b).regenerate, ?_, rfl, rfl, ?_, rfl,
      rfl, rfl, rfl⟩
    · rw [deliverAll_append, deliverAll_keygen_started legal fits, andThen_next, deliverAll_replicate_engine, retries]
    · simp [State.derivation, T]

end Sys2Proof.Machine
end

section
/-! PROOFS. The rules of 60_exceptions.md: the error codes, the abort through CTRL, the interrupt line, and what a read can
show. -/

namespace Sys2Proof.Machine

/-! ## The error codes (60_exceptions.md R203, R204, R205) -/

/-- The code a step of the command raises, read from the rules on the codes; `ok` where no rule raises one. -/
def raised : Instr → State → ErrCode
  | .nop, _ | .isprime _, _ => .ok
  | .modexp _ _ _ _, s => if s.C ≤ 1 then .invalidKey else .ok
  | .modinv _ _ _, s => if s.B = 0 then .badArg else if s.A.gcd s.B ≠ 1 then .noInverse else .ok
  | .genprime _ _, s => if s.fsm = .start ∧ (s.A < 2 ∨ s.params.width - 1 < s.A) then .badArg else .ok
  | .keygen _ _, s => if s.fsm = .start ∧ (s.A < 2 ∨ s.params.width - 4 < s.A) then .badArg else .ok

section
variable (i : Instr) (s : State)

theorem raised_eq_invalidKey_iff :
    raised i s = .invalidKey ↔ (∃ rd rs1 rs2 rs3, i = .modexp rd rs1 rs2 rs3) ∧ s.C ≤ 1 := by
  cases i <;> simp [raised, ite_eq_iff]

theorem raised_eq_noInverse_iff :
    raised i s = .noInverse ↔ (∃ rd rs1 rs2, i = .modinv rd rs1 rs2) ∧ 1 ≤ s.B ∧ s.A.gcd s.B ≠ 1 := by
  cases i <;> simp [raised, ite_eq_iff, Nat.one_le_iff_ne_zero]

theorem raised_eq_badArg_iff :
    raised i s = .badArg ↔ (∃ rd rs1 rs2, i = .modinv rd rs1 rs2) ∧ s.B = 0 ∨
      (∃ rd rs1, i = .genprime rd rs1) ∧ s.fsm = .start ∧ (s.A < 2 ∨ s.params.width - 1 < s.A) ∨
      (∃ rd rs1, i = .keygen rd rs1) ∧ s.fsm = .start ∧ (s.A < 2 ∨ s.params.width - 4 < s.A) := by
  cases i <;> simp [raised, ite_eq_iff, -ite_eq_left_iff]

/-- ILLEGAL and ABORTED are raised on the bus only. -/
theorem raised_ne_illegal_aborted : raised i s ≠ .illegal ∧ raised i s ≠ .aborted := by
  cases i <;> simp [raised, ite_eq_iff]

end

theorem ErrCode.code_injective : Function.Injective ErrCode.code := by
  intro c d
  cases c <;> cases d <;> decide

theorem candidateDraw_err (s : State) : (candidateDraw s).err = s.err := by
  rcases candidateDraw_cases s with ⟨-, e⟩ | ⟨-, e⟩ <;> rw [e]
  rfl

theorem keygenPassed_err (s : State) : (keygenPassed s).err = s.err := by
  rcases keygenPassed_cases s with ⟨-, e⟩ | ⟨-, e⟩ <;> rw [e]

/-- A candidate test raises no error of its own. -/
theorem candidateTest_err {passed : State → State} {s : State} (err : s.err = 0)
    (h : ∀ b, (passed (s.setBases b)).err = 0) : (candidateTest passed s).err = 0 := by
  rcases candidateTest_cases passed s with ⟨-, e⟩ | ⟨-, e⟩ <;> rw [e]
  · exact h _
  · exact err

/-- An engine step either raises nothing and leaves `ERR` clear, or is the error completion with the code it raises. -/
theorem exec_raised {i : Instr} {s t : State} (err : s.err = 0) (h : exec i s = .next t) :
    raised i s = .ok ∧ t.err = 0 ∨ t = s.finish (raised i s) := by
  cases i with
  | nop =>
    obtain ⟨-, rfl⟩ := exec_nop_next.1 h
    exact .inl ⟨rfl, rfl⟩
  | isprime rs1 =>
    obtain ⟨-, rfl⟩ := exec_isprime_next.1 h
    exact .inl ⟨rfl, rfl⟩
  | modexp rd rs1 rs2 rs3 =>
    obtain ⟨-, rfl⟩ := exec_modexp_next.1 h
    rcases modexpStart_cases rd s with ⟨invalid, e⟩ | ⟨valid, e⟩ <;> rw [e]
    · exact .inr (by rw [raised, if_pos invalid])
    · exact .inl ⟨if_neg (by omega), rfl⟩
  | modinv rd rs1 rs2 =>
    obtain ⟨-, rfl⟩ := exec_modinv_next.1 h
    rcases modinvStart_cases rd s with ⟨zero, e⟩ | ⟨hB, common, e⟩ | ⟨hB, coprime, e⟩ <;> rw [e]
    · exact .inr (by rw [raised, if_pos zero])
    · rw [(xgcd_spec s.A (by omega)).1] at common
      exact .inr (by rw [raised, if_neg hB, if_pos common])
    · rw [(xgcd_spec s.A (by omega)).1] at coprime
      exact .inl ⟨by rw [raised, if_neg hB, if_neg (not_not_intro coprime)], rfl⟩
  | genprime rd rs1 =>
    rcases exec_genprime_next.1 h with ⟨start, rfl⟩ | ⟨draw, rfl⟩ | ⟨test, rfl⟩
    · rcases genprimeStart_cases s with ⟨bad, e⟩ | ⟨lo, hi, e⟩ <;> rw [e]
      · exact .inr (by rw [raised, if_pos ⟨start, bad⟩])
      · exact .inl ⟨if_neg (by omega), err⟩
    · exact .inl ⟨if_neg (by simp [draw]), (candidateDraw_err s).trans err⟩
    · exact .inl ⟨if_neg (by simp [test]), candidateTest_err err fun _ => rfl⟩
  | keygen rd rs1 =>
    rcases exec_keygen_next.1 h with ⟨start, rfl⟩ | ⟨draw, rfl⟩ | ⟨test, rfl⟩ | ⟨derive, rfl⟩
    · rcases keygenStart_cases s with ⟨bad, e⟩ | ⟨lo, hi, e⟩ <;> rw [e]
      · exact .inr (by rw [raised, if_pos ⟨start, bad⟩])
      · exact .inl ⟨if_neg (by omega), err⟩
    · exact .inl ⟨if_neg (by simp [draw]), (candidateDraw_err s).trans err⟩
    · exact .inl ⟨if_neg (by simp [test]), candidateTest_err err fun _ => (keygenPassed_err _).trans err⟩
    · refine .inl ⟨if_neg (by simp [derive]), ?_⟩
      rcases deriveKey_cases rd s with ⟨-, e⟩ | ⟨-, e⟩ <;> rw [e]
      · rfl
      · exact err

theorem exec_err {i : Instr} {s t : State} (err : s.err = 0) (h : exec i s = .next t) :
    t.err = (raised i s).code := by
  rcases exec_raised err h with ⟨none, clear⟩ | e
  · rw [none, clear]; rfl
  · rw [e]; rfl

/-- Settles O45: `ERR` holds the code of `raised`, and an error completion is a bare `finish`. -/
theorem errorCodesAreRaisedByTheirCommands : Obligations.ErrorCodesAreRaisedByTheirCommands := by
  intro i s t err _ h
  have code (c : ErrCode) : t.err = c.code ↔ raised i s = c := by
    rw [exec_err err h]
    exact ErrCode.code_injective.eq_iff
  obtain ⟨not_illegal, not_aborted⟩ := raised_ne_illegal_aborted i s
  refine ⟨(code .invalidKey).trans (raised_eq_invalidKey_iff i s), (code .noInverse).trans (raised_eq_noInverse_iff i s),
    (code .badArg).trans (raised_eq_badArg_iff i s), mt (code .illegal).1 not_illegal, mt (code .aborted).1 not_aborted,
    fun fails => ?_⟩
  rcases exec_raised err h with ⟨-, clear⟩ | e
  · exact absurd clear fails
  · rw [e]
    exact ⟨rfl, rfl, rfl, rfl, rfl⟩

/-! ## The abort (60_exceptions.md R206, R209, R212) -/

/-- A write of CTRL out of reset. -/
theorem deliver_write_ctrl {s : State} (v : Word) (rst : s.rstN = true) :
    deliver (.bus (.write 0x008 4 0xF v)) s = .next ((writeCtrl v s).respond .written) := by
  rw [deliver_write v rst (by decide), busWrite_ctrl]

/-- Settles O16: the two cases of `writeCtrl`. -/
theorem ctrlWriteAborts : Obligations.CtrlWriteAborts := by
  intro s v rst
  refine ⟨writeCtrl v s, ?_⟩
  rw [deliver_write_ctrl v rst]
  rcases writeCtrl_cases v s with ⟨abort, busy, e⟩ | ⟨noAbort, e⟩ <;> rw [e]
  · refine ⟨rfl, rfl, fun _ _ => ⟨completed_finish _ _, rfl, rfl, rfl, rfl, ⟨rfl, rfl, rfl, rfl⟩, ⟨rfl, rfl⟩⟩,
      fun noAbort => ?_⟩
    simp only [abort, busy, Bool.true_eq_false, or_self] at noAbort
  · refine ⟨rfl, rfl, fun abort busy => ?_, fun _ => rfl⟩
    simp only [abort, busy, Bool.true_eq_false, or_self] at noAbort

/-- With no command running the engine may be scheduled any number of times and nothing changes. -/
theorem engineSteps_idle {s : State} (idle : s.fsm = .idle) (n : Nat) : engineSteps n s = .next s := by
  induction n with
  | zero => rfl
  | succ n ih => rw [engineSteps_succ, engineStep_idle idle, andThen_next, ih]

/-- An engine step that brings a running command to IDLE is its completion, which leaves `rst_n` released. -/
theorem engineStep_completes {s u : State} (h : engineStep s = .next u) (running : s.fsm ≠ .idle) (idle : u.fsm = .idle) :
    u.busy = false ∧ u.rstN = s.rstN := by
  rcases engineStep_cases s with ⟨e, -⟩ | ⟨-, -, i, -, e⟩ | ⟨-, -, -, e⟩ <;> rw [e] at h
  · cases h
    exact absurd idle running
  · have frame := execFrame_of_next h
    rcases frame.ends with ⟨c, -, -, busy, -⟩ | ⟨goesOn, -⟩
    · exact ⟨busy, frame.kept.rstN_eq⟩
    · exact absurd idle goesOn
  · cases h

/-- Settles O51: the abort ends in IDLE, where the engine has no step; a completion clears `BUSY`, and then the abort bit
does nothing. -/
theorem abortAndCompletionInEitherOrder : Obligations.AbortAndCompletionInEitherOrder := by
  intro s v rst busy abort
  refine ⟨⟨((s.setIe (v.getLsbD 0)).finish .aborted).respond .written, fun n => ?_, completed_finish _ _, rfl, rfl, rfl⟩,
    fun u completes running idle => ?_⟩
  · rw [deliverAll_cons, deliver_write_ctrl v rst, writeCtrl_of_abort abort busy, andThen_next,
      deliverAll_replicate_engine, engineSteps_idle (by simp)]
  · obtain ⟨ended, released⟩ := engineStep_completes completes running idle
    rw [deliverAll_cons, deliver, completes, andThen_next, deliverAll_cons, deliver_write_ctrl v (released.trans rst),
      writeCtrl_of_not_busy u v ended]
    rfl

/-! ## The interrupt line (60_exceptions.md R213) -/

theorem Block.irq_iff (b : Block) : b.irq = true ↔ b.ie = true ∧ b.done = true := Bool.and_eq_true_iff

/-- On the bus only a completion sets `DONE`. -/
theorem Txn.Outcome.done_cases {s t : State} {x : Txn} (h : x.Outcome s t) :
    (∃ c, Completed c t) ∨ (t.done = true → s.done = true) := by
  cases h with
  | abort | illegal => exact .inl ⟨_, completed_finish _ _⟩
  | status v =>
    refine .inr fun set => ?_
    by_cases bit : v.getLsbD 1 = true
    · exact absurd ((if_pos bit).symm.trans set) Bool.false_ne_true
    · exact (if_neg bit).symm.trans set
  | accept => exact .inr (nomatch ·)
  | nothing | setIe | collide | limb => exact .inr id

/-- Only a completion sets `DONE` (10_state.md R30). -/
theorem completed_of_done_rises {s t : State} (h : step s = .next t) (clear : s.done = false) (set : t.done = true) :
    ∃ c, Completed c t := by
  have unset {P : Prop} (done : s.done = true) : P := by simp [clear] at done
  cases stepOutcome_of_next h with
  | bus x rest u inbox rst outcome => exact outcome.done_cases.resolve_right fun kept => unset (kept set)
  | engine rest i _ inbox rst busy latched runs =>
    rcases (execFrame_of_next runs).ends with completed | ⟨-, -, -, -, -, done, -⟩
    · exact completed
    · exact unset (done ▸ set)
  | resetAssert => cases set
  | hold | resetRelease | entropy => exact unset set

/-- Settles O50: with `DONE` clear it is a completion that sets it; with `DONE` set the line waits for `IE`. -/
theorem interruptRisesOnlyByCompletionOrEnable : Obligations.InterruptRisesOnlyByCompletionOrEnable := by
  intro s t h low high
  obtain ⟨ie, done⟩ := t.irq_iff.1 high
  by_cases waiting : s.done = true
  · have disabled : s.ie ≠ true := fun enabled => by simp [s.irq_iff.2 ⟨enabled, waiting⟩] at low
    rcases onlyCtrlWriteOrResetChangesIe s t h (ie ▸ disabled.symm) with ⟨v, rest, inbox, e⟩ | ⟨-, off⟩
    · exact .inr ⟨waiting, v, rest, inbox, e ▸ ie⟩
    · simp [off] at ie
  · rw [Bool.not_eq_true] at waiting
    obtain ⟨c, -, -, busy, idle, -⟩ := completed_of_done_rises h waiting done
    exact .inl ⟨waiting, done, busy, idle, ie⟩

/-! ## What a read can show (60_exceptions.md R215) -/

theorem busRead_of_visible {s t : State} (kept : HostVisibleKept s t) (params : t.params = s.params) (off : Offset) :
    busRead off t = busRead off s := by
  obtain ⟨X, ie, busy, done, prime, coll, err⟩ := kept
  unfold busRead
  cases target off with
  | id | cmd | unmapped => rfl
  | config => simp only [params]
  | ctrl => simp only [Block.ctrlWord, ie]
  | status => simp only [Block.statusWord, busy, done, prime, coll, err]
  | limb i j => simp only [params, X]

/-- Settles O53: what a read shows is read from visible fields and the parameters; a write answers without data. -/
theorem readsDependOnVisibleStateOnly : Obligations.ReadsDependOnVisibleStateOnly := by
  intro s t x kept params
  cases x with
  | read off size => simp only [Txn.answer, busRead_of_visible kept params]
  | write off size strb v => rfl

end Sys2Proof.Machine
end

section
/-! PROOFS. The rules of 70_reset_and_hazards.md: the invariant at reset, no step while `rst_n` is asserted, and the
stale limbs an LDXS leaves. -/

namespace Sys2Proof.Machine

/-! ## Reset (70_reset_and_hazards.md R230, R232) -/

/-- A legal width is all the invariant asks beside a block at its reset value, whatever surrounds the block. -/
theorem StateInv.of_block_reset {s : State} (legal : s.params.Legal) (block : s.toBlock = Block.reset) : StateInv s := by
  obtain ⟨b, params, rstN, inbox, entropy, bases, responses⟩ := s
  obtain rfl : b = Block.reset := block
  exact {
    legal := legal
    regs := fun i => (RegFile.get_zero i).trans_lt (Nat.two_pow_pos _)
    busy_iff := iff_of_false Bool.false_ne_true (absurd rfl)
    running := absurd rfl
    err_le := Nat.zero_le 5
    cleared := fun _ => ⟨rfl, rfl, rfl, rfl, rfl, rfl⟩
    snapshot := absurd rfl
    latched := absurd rfl
    inReset := fun _ => rfl }

/-- Settles O3: right after reset the block is at its reset value, and the model's own width is legal. -/
theorem resetMeetsInvariant : Obligations.ResetMeetsInvariant :=
  ⟨fun _ legal => .of_block_reset legal rfl, .of_block_reset (by decide) rfl⟩

/-- No engine step is enabled in reset, whatever `fsm` holds. -/
theorem engineStep_of_inReset {s : State} (rst : s.rstN = false) : engineStep s = .next s := by
  simp [engineStep, State.engineEnabled, rst]

theorem deliver_bus_of_inReset {s : State} (x : Txn) (rst : s.rstN = false) :
    deliver (.bus x) s = .fault .busAccessInReset := by
  simp [deliver, rst]

/-- Settles O2: the engine is not enabled, and every transaction is the fault of log entry 9. -/
theorem noStepWhileResetAsserted : Obligations.NoStepWhileResetAsserted :=
  fun _ rst => ⟨engineStep_of_inReset rst, fun x => deliver_bus_of_inReset x rst⟩

/-! ## Stale limbs (70_reset_and_hazards.md R241) -/

/-- Loading `X[i]` changes that register and the answers, and nothing else. -/
theorem State.withReg_frame (s : State) (i : Reg) (v n : Nat) :
    (s.withReg i v n).X.get i = v ∧ OtherRegsKept [i] s (s.withReg i v n) ∧
      s.withReg i v n = { s with X := (s.withReg i v n).X, responses := (s.withReg i v n).responses } :=
  ⟨RegFile.get_set_same s.X i v, fun _ other => RegFile.get_set_ne s.X v (List.ne_of_not_mem_cons other), rfl⟩

/-- Settles O23: LDX writes every limb, so it leaves `v`; LDXS writes the low `n` limbs, so it leaves `withLowLimbs`. -/
theorem ldxLoadsAndLdxsLeavesUpperLimbs : Obligations.LdxLoadsAndLdxsLeavesUpperLimbs := by
  intro s i v n rst idle legal fits hv present
  have few : n ≤ 256 := by
    obtain ⟨-, -, widest⟩ := legal
    omega
  exact ⟨⟨_, deliverAll_ldx i rst idle legal fits hv, s.withReg_frame i v _⟩,
    ⟨_, deliverAll_loadTxns i v rst idle present few, s.withReg_frame i _ n⟩⟩

end Sys2Proof.Machine
end
